-- ==== Sys2Proof/Word.lean ====
section
/-! DEFINITION. The word types of the block: a data byte (`u8`), a 16-bit argument (`u16`, spec/00_scope.md R11)
and the 9-bit bus word (spec/30_encoding.md R90). Everything the spec computes on unbounded naturals stays `Nat`. -/

namespace Sys2Proof

/-- `u8`: one data byte (R11). -/
abbrev Byte := BitVec 8

/-- `u16`: a window bound or a colour (R11). -/
abbrev U16 := BitVec 16

/-- One bus word: bit 8 is DC, bits 7:0 are the byte on the data lines (R90). -/
abbrev BusWord := BitVec 9

end Sys2Proof
end

