-- ==== Sys2Proof/Config.lean ====
section
/-! DEFINITION. What an implementation fixes (spec/00_scope.md R9, R10): the 13 lines, the configuration record of
one instance, and the parameters whose value R9 gives for every instance of this hardware. The fields R9 calls OPEN
(`orientation`, `max_refresh_hz`, `pin_map`, `T_BUS_ELECTRICAL`, `gpio_map_ok`, `alloc_ok`) are fields of the record
that ATTACH brings, so a statement about every ATTACH holds for every value of them. -/

namespace Sys2Proof

/-- The 13 lines the block drives (R22), in the order CONFIGURE_OUTPUTS visits them (R120). -/
inductive Line where
  | d0 | d1 | d2 | d3 | d4 | d5 | d6 | d7
  /-- data/command select -/
  | dc
  /-- chip select -/
  | cs
  /-- read strobe -/
  | rd
  /-- write strobe -/
  | wr
  /-- reset -/
  | rst
  deriving DecidableEq, Repr

/-- One value per line: the shape of the line registers (R23, R24) and of the pin map. -/
structure ByLine (α : Type) where
  d0 : α
  d1 : α
  d2 : α
  d3 : α
  d4 : α
  d5 : α
  d6 : α
  d7 : α
  dc : α
  cs : α
  rd : α
  wr : α
  rst : α
  deriving DecidableEq, Repr

/-- The same value on every line. -/
def ByLine.const {α : Type} (a : α) : ByLine α :=
  { d0 := a, d1 := a, d2 := a, d3 := a, d4 := a, d5 := a, d6 := a, d7 := a,
    dc := a, cs := a, rd := a, wr := a, rst := a }

/-- `Orientation` (R9, R16): fixed per instance. -/
inductive Orientation where
  | landscape
  | portrait
  deriving DecidableEq, Repr

/-- Where one line sits on the platform: a GPIO register and a bit of it. DESIGN CHOICE (log 11): the spec leaves the
form of `pin_map` open and no rule reads it. -/
structure PinBinding where
  register : Nat
  bit : Nat
  deriving DecidableEq, Repr

/-- `T_BUS_ELECTRICAL` (R9, D30): WR low and high widths, DC and data setup and hold to WR. OPEN; no rule reads it
(log 11). -/
structure BusTiming where
  wrLow : Nat
  wrHigh : Nat
  dcSetup : Nat
  dcHold : Nat
  dataSetup : Nat
  dataHold : Nat
  deriving DecidableEq, Repr

/-- The configuration record ATTACH brings (R9, R31). -/
structure Cfg where
  /-- `W`: surface width in pixels -/
  width : Nat
  /-- `H`: surface height in pixels -/
  height : Nat
  /-- immutable per instance -/
  orientation : Orientation
  /-- `refresh_hz_default` -/
  refreshHzDefault : Nat
  /-- `max_refresh_hz`, OPEN (D16) -/
  maxRefreshHz : Nat
  /-- `pin_map`, OPEN (D26) -/
  pinMap : ByLine PinBinding
  /-- `T_BUS_ELECTRICAL`, OPEN (D30) -/
  busTiming : BusTiming
  /-- `gpio_map_ok`, a draw per ATTACH (D25) -/
  gpioMapOk : Bool
  /-- `alloc_ok`, a draw per ATTACH (D25) -/
  allocOk : Bool
  deriving DecidableEq, Repr

/-- `T_RESET_MIN_MS` (R9): minimum hold after each reset-line edge. -/
def Config.tResetMinMs : Nat := 120

/-- `T_CMD_DELAY_MIN_MS` (R9): minimum wait after software reset and after sleep out. -/
def Config.tCmdDelayMinMs : Nat := 120

/-- `PIXFMT_565` (R9): the argument of `0x3A` that selects 16-bit 5-6-5. -/
def Config.pixfmt565 : Byte := 0x55#8

/-- `BPP_BYTES` (R9): bytes per pixel. -/
def Config.bppBytes : Nat := 2

/-- A pin map with every line at register 0, bit 0: a placeholder for the OPEN `pin_map`. -/
def Config.noPins : ByLine PinBinding :=
  ByLine.const { register := 0, bit := 0 }

/-- The values R9 gives for this hardware. The OPEN fields hold a placeholder (log 1). -/
def Config.thisHardware : Cfg :=
  { width := 240, height := 400, orientation := .landscape, refreshHzDefault := 25, maxRefreshHz := 25,
    pinMap := Config.noPins,
    busTiming := { wrLow := 0, wrHigh := 0, dcSetup := 0, dcHold := 0, dataSetup := 0, dataHold := 0 },
    gpioMapOk := true, allocOk := true }

end Sys2Proof
end

