-- ==== Sys2Proof/Syntax.lean ====
section
/-! DEFINITION. The operations of the block as syntax: rectangles, the Command type (spec/30_encoding.md R92), one
constructor of `Instr` per row of spec/opcode_table.json (the bus words as command frames, the request terms of R97,
the internal operations of R98), and the host's composite operations (spec/44_host_surface.md R226 to R228, R232),
which are expansions and no rows of the table. -/

namespace Sys2Proof

/-- `Rect = (x, y, width, height)`, all naturals, in surface pixel coordinates (R97, R170). -/
structure Rect where
  x : Nat
  y : Nat
  width : Nat
  height : Nat
  deriving DecidableEq, Repr

/-- The seven-variant Command type (R92). -/
inductive Command where
  | reset
  | sleepOut
  | setPixelFormat (v : Byte)
  | setColumnAddress (start stop : U16)
  | setRowAddress (start stop : U16)
  | memoryWrite
  | displayOn
  deriving DecidableEq, Repr

/-- One constructor per row of the opcode table. -/
inductive Instr where
  /-- `0x01` software reset, R143 -/
  | cmdReset
  /-- `0x11` sleep out, R144 -/
  | cmdSleepOut
  /-- `0x29` display on, R149 -/
  | cmdDisplayOn
  /-- `0x2A` column address set with its four argument words, R146 -/
  | cmdColumnAddressSet (start stop : U16)
  /-- `0x2B` row address set with its four argument words, R147 -/
  | cmdRowAddressSet (start stop : U16)
  /-- `0x2C` memory write, the command word alone, R148 -/
  | cmdMemoryWrite
  /-- `0x3A` interface pixel format with its argument word, R145 -/
  | cmdPixelFormat (v : Byte)
  /-- one data word standing by itself: a payload word of a memory-write frame, R95, R141 -/
  | dataWord (b : Byte)
  /-- R221 -/
  | attach (cfg : Cfg)
  /-- R222 -/
  | detach
  /-- R151 -/
  | hardReset
  /-- R152 -/
  | initPanel
  /-- R150 -/
  | sendCommand (cmd : Command)
  /-- R192 -/
  | transferRegion (r : Rect)
  /-- R193 -/
  | fillRegion (r : Rect) (color : U16)
  /-- R194 -/
  | transferFullFrame
  /-- R229 -/
  | setRefreshRate (hz : Nat)
  /-- R230 -/
  | refreshTick
  /-- R223 -/
  | hostRead (off len : Nat)
  /-- R224 -/
  | hostWrite (off : Nat) (bytes : List Byte)
  /-- R120 -/
  | configureOutputs
  /-- R122; `v` is the level, `true` for 1 -/
  | setLine (l : Line) (v : Bool)
  /-- R123 -/
  | writeParallelByte (b : Byte)
  /-- R140 -/
  | writeCommand (b : Byte)
  /-- R141 -/
  | writeData (b : Byte)
  /-- R153 -/
  | delay (ms : Nat)
  /-- R171 -/
  | validate (r : Rect)
  /-- R174, R175 -/
  | setWindow (r : Rect)
  deriving DecidableEq, Repr

/-- A "region dirty" notification (R232). -/
inductive Dirty where
  | rectangle (r : Rect)
  | colorFill (r : Rect) (color : U16)
  | generic
  deriving DecidableEq, Repr

/-- What a host agent can ask for: a request at a port (R97), or a drawing operation that is mapped onto requests
(R226 to R228, R232). The operands of HOST_COPY_RECT do not matter (R227); their form is the model's (log 22). -/
inductive HostOp where
  | request (i : Instr)
  | fillRect (r : Rect) (color : U16)
  | copyRect (source : Rect) (x y : Nat)
  | blit (r : Rect) (src : List Byte)
  | dirty (d : Dirty)
  deriving DecidableEq, Repr

end Sys2Proof
end

