-- ==== Sys2Proof/WellFormed.lean ====
section
/-! DEFINITION. Which terms have a meaning by their form (spec/30_encoding.md R103, spec/60_exceptions.md R260). An
operand outside its type (a `u16` above 65535, a `u8` above 255) cannot be written, because the type leaves it out. -/

namespace Sys2Proof

/-- The constraints of R9 on a configuration. -/
def Cfg.ok (c : Cfg) : Bool :=
  decide (1 ≤ c.width ∧ c.width ≤ 65535) && decide (1 ≤ c.height ∧ c.height ≤ 65535)
    && decide (1 ≤ c.refreshHzDefault ∧ c.refreshHzDefault ≤ c.maxRefreshHz)

/-- The request forms R260 gives no meaning are ill-formed; every other term of the syntax is well-formed. -/
def Instr.wellFormed : Instr → Bool
  | .attach cfg => cfg.ok
  | .sendCommand cmd => cmd != .memoryWrite
  | .cmdReset | .cmdSleepOut | .cmdDisplayOn | .cmdColumnAddressSet _ _ | .cmdRowAddressSet _ _
  | .cmdMemoryWrite | .cmdPixelFormat _ | .dataWord _ => true
  | .detach | .hardReset | .initPanel | .transferRegion _ | .fillRegion _ _ | .transferFullFrame
  | .setRefreshRate _ | .refreshTick | .hostRead _ _ | .hostWrite _ _ => true
  | .configureOutputs | .setLine _ _ | .writeParallelByte _ | .writeCommand _ | .writeData _ | .delay _
  | .validate _ | .setWindow _ => true

/-- A blit's source must be `2·w·h` bytes long (R228, R260); a request must be well-formed. -/
def HostOp.wellFormed : HostOp → Bool
  | .blit r src => decide (src.length = 2 * r.width * r.height)
  | .request i => i.wellFormed
  | .fillRect _ _ | .copyRect _ _ _ | .dirty _ => true

/-- The eight bus-word rows of the opcode table (R90, R99). -/
def Instr.isBusFrame : Instr → Bool
  | .cmdReset | .cmdSleepOut | .cmdDisplayOn | .cmdColumnAddressSet _ _ | .cmdRowAddressSet _ _
  | .cmdMemoryWrite | .cmdPixelFormat _ | .dataWord _ => true
  | .attach _ | .detach | .hardReset | .initPanel | .sendCommand _ | .transferRegion _ | .fillRegion _ _
  | .transferFullFrame | .setRefreshRate _ | .refreshTick | .hostRead _ _ | .hostWrite _ _
  | .configureOutputs | .setLine _ _ | .writeParallelByte _ | .writeCommand _ | .writeData _ | .delay _
  | .validate _ | .setWindow _ => false

/-- The requests a host agent may present (R20, R97): every request but REFRESH_TICK, which only the timer issues
(R230). Internal operations and bus words are not accepted at the port (R98). -/
def Instr.isHostRequest : Instr → Bool
  | .attach _ | .detach | .hardReset | .initPanel | .sendCommand _ | .transferRegion _ | .fillRegion _ _
  | .transferFullFrame | .setRefreshRate _ | .hostRead _ _ | .hostWrite _ _ => true
  | .refreshTick => false
  | .cmdReset | .cmdSleepOut | .cmdDisplayOn | .cmdColumnAddressSet _ _ | .cmdRowAddressSet _ _
  | .cmdMemoryWrite | .cmdPixelFormat _ | .dataWord _
  | .configureOutputs | .setLine _ _ | .writeParallelByte _ | .writeCommand _ | .writeData _ | .delay _
  | .validate _ | .setWindow _ => false

/-- The requests that go through the engine (R36). -/
def Instr.isEngineRequest : Instr → Bool
  | .attach _ | .detach | .hardReset | .initPanel | .sendCommand _ | .transferRegion _ | .fillRegion _ _
  | .transferFullFrame | .setRefreshRate _ | .refreshTick => true
  | .hostRead _ _ | .hostWrite _ _ => false
  | .cmdReset | .cmdSleepOut | .cmdDisplayOn | .cmdColumnAddressSet _ _ | .cmdRowAddressSet _ _
  | .cmdMemoryWrite | .cmdPixelFormat _ | .dataWord _
  | .configureOutputs | .setLine _ _ | .writeParallelByte _ | .writeCommand _ | .writeData _ | .delay _
  | .validate _ | .setWindow _ => false

/-- The one operation the buffer port may have to hold (R71, R74). -/
def Instr.isHostWrite : Instr → Bool
  | .hostWrite _ _ => true
  | .hostRead _ _
  | .attach _ | .detach | .hardReset | .initPanel | .sendCommand _ | .transferRegion _ | .fillRegion _ _
  | .transferFullFrame | .setRefreshRate _ | .refreshTick
  | .cmdReset | .cmdSleepOut | .cmdDisplayOn | .cmdColumnAddressSet _ _ | .cmdRowAddressSet _ _
  | .cmdMemoryWrite | .cmdPixelFormat _ | .dataWord _
  | .configureOutputs | .setLine _ _ | .writeParallelByte _ | .writeCommand _ | .writeData _ | .delay _
  | .validate _ | .setWindow _ => false

end Sys2Proof
end

