-- ==== Sys2Proof/Decode.lean ====
section
/-! DEFINITION. The encodings (spec/30_encoding.md): the bus word and its two fields, the frame decoder a trace observer
uses (R99, R102), and after it the encoder (R96). Only bus words have a binary encoding; requests and internal
operations are tagged terms (R97, R98). -/

namespace Sys2Proof

/-! ### Fields (R12, R90) -/

/-- `hi8(v)` (R12). -/
def hi8 (v : U16) : Byte := v.extractLsb' 8 8

/-- `lo8(v)` (R12). -/
def lo8 (v : U16) : Byte := v.extractLsb' 0 8

/-- `(hi, lo)` as one 16-bit value, `hi` the more significant (R12, R93). -/
def join16 (hi lo : Byte) : U16 := hi ++ lo

/-- The command word `C(b)`: DC = 0 (R90). -/
def commandWord (b : Byte) : BusWord := 0#1 ++ b

/-- The data word `D(b)`: DC = 1 (R90). -/
def dataBusWord (b : Byte) : BusWord := 1#1 ++ b

/-- The DC field of a bus word: `true` for a data word (R90). -/
def BusWord.isData (w : BusWord) : Bool := w.getLsbD 8

/-- The byte of a bus word (R90). -/
def BusWord.byte (w : BusWord) : Byte := w.extractLsb' 0 8

/-! ### The decoder (R91, R92, R99, R100, R102) -/

/-- Why a word list is no frame of this block. -/
inductive DecodeError where
  /-- no word is left -/
  | noWord
  /-- a command word outside the seven opcodes: the reserved space, never emitted (R100) -/
  | reservedOpcode (opcode : Byte)
  /-- the frame of this opcode ends, or meets a command word, before its last argument (R92) -/
  | missingArgument (opcode : Byte)
  /-- a data word whose nearest preceding command word has no place for it in its frame, or before which there is no
  command word (R91, R99) -/
  | dataOutsideFrame (b : Byte)
  deriving DecidableEq, Repr

/-- The byte of a data word at the head of the list; `none` if the head is a command word or is missing. -/
def takeData : List BusWord → Option (Byte × List BusWord)
  | [] => none
  | w :: ws => if BusWord.isData w then some (BusWord.byte w, ws) else none

/-- Two data words as one big-endian 16-bit argument (R93). -/
def takeU16 (ws : List BusWord) : Option (U16 × List BusWord) :=
  match takeData ws with
  | none => none
  | some (hi, ws1) =>
    match takeData ws1 with
    | none => none
    | some (lo, ws2) => some (join16 hi lo, ws2)

/-- The start and end arguments of `0x2A` and `0x2B` (R92). -/
def takeBounds (ws : List BusWord) : Option ((U16 × U16) × List BusWord) :=
  match takeU16 ws with
  | none => none
  | some (s, ws1) =>
    match takeU16 ws1 with
    | none => none
    | some (e, ws2) => some ((s, e), ws2)

/-- The frame a command word opens, with the words after it (R92). -/
def decodeCommand (opcode : Byte) (ws : List BusWord) : Except DecodeError (Instr × List BusWord) :=
  if opcode = 0x01#8 then .ok (.cmdReset, ws)
  else if opcode = 0x11#8 then .ok (.cmdSleepOut, ws)
  else if opcode = 0x29#8 then .ok (.cmdDisplayOn, ws)
  else if opcode = 0x2A#8 then
    match takeBounds ws with
    | some ((s, e), rest) => .ok (.cmdColumnAddressSet s e, rest)
    | none => .error (.missingArgument opcode)
  else if opcode = 0x2B#8 then
    match takeBounds ws with
    | some ((s, e), rest) => .ok (.cmdRowAddressSet s e, rest)
    | none => .error (.missingArgument opcode)
  else if opcode = 0x2C#8 then .ok (.cmdMemoryWrite, ws)
  else if opcode = 0x3A#8 then
    match takeData ws with
    | some (v, rest) => .ok (.cmdPixelFormat v, rest)
    | none => .error (.missingArgument opcode)
  else .error (.reservedOpcode opcode)

/-- One frame from the head of a word list, with the words after it; total on any words, refusing by name. A data word
at the head belongs to the frame of the nearest preceding command word (R99): which one that is, and whether it has a
place for the word, the head does not say; `decodeStream` and the meaning of the data word do. -/
def decodeFrame : List BusWord → Except DecodeError (Instr × List BusWord)
  | [] => .error .noWord
  | w :: ws =>
    if BusWord.isData w then .ok (.dataWord (BusWord.byte w), ws) else decodeCommand (BusWord.byte w) ws

/-- Whether the words after a word `w` and its arguments stand in a memory-write frame: such a frame goes on to the next
command word (R102). -/
def staysInPayload (w : BusWord) : Bool := BusWord.isData w || BusWord.byte w == 0x2C#8

/-- A whole word stream as frames, with the length of the list as fuel; a memory-write frame is its command word and
the data words up to the next command word (R102). `inPayload` says whether the list begins in a memory-write frame; a
data word standing outside one, and not among the arguments of another frame, is refused (R99). -/
def decodeStream : Nat → Bool → List BusWord → Except DecodeError (List Instr)
  | _, _, [] => .ok []
  | 0, _, _ :: _ => .error .noWord
  | n + 1, inPayload, w :: ws =>
    if BusWord.isData w && !inPayload then .error (.dataOutsideFrame (BusWord.byte w))
    else match decodeFrame (w :: ws) with
    | .error e => .error e
    | .ok (i, rest) =>
      match decodeStream n (staysInPayload w) rest with
      | .error e => .error e
      | .ok is => .ok (i :: is)

/-! ### The encoder (R96) -/

/-- The two argument words of a 16-bit value, high byte first (R63, R93). -/
def encodeU16 (v : U16) : List BusWord := [dataBusWord (hi8 v), dataBusWord (lo8 v)]

/-- `encode : Command -> List BusWord`, the single encoder function (R96). -/
def encodeCommand : Command → List BusWord
  | .reset => [commandWord 0x01#8]
  | .sleepOut => [commandWord 0x11#8]
  | .setPixelFormat v => [commandWord 0x3A#8, dataBusWord v]
  | .setColumnAddress s e => commandWord 0x2A#8 :: (encodeU16 s ++ encodeU16 e)
  | .setRowAddress s e => commandWord 0x2B#8 :: (encodeU16 s ++ encodeU16 e)
  | .memoryWrite => [commandWord 0x2C#8]
  | .displayOn => [commandWord 0x29#8]

/-- The bus words of an instruction that has an encoding: the eight bus-word rows. A request or an internal operation
has none (R97, R98). -/
def encode : Instr → Option (List BusWord)
  | .cmdReset => some (encodeCommand .reset)
  | .cmdSleepOut => some (encodeCommand .sleepOut)
  | .cmdDisplayOn => some (encodeCommand .displayOn)
  | .cmdColumnAddressSet s e => some (encodeCommand (.setColumnAddress s e))
  | .cmdRowAddressSet s e => some (encodeCommand (.setRowAddress s e))
  | .cmdMemoryWrite => some (encodeCommand .memoryWrite)
  | .cmdPixelFormat v => some (encodeCommand (.setPixelFormat v))
  | .dataWord b => some [dataBusWord b]
  | .attach _ | .detach | .hardReset | .initPanel | .sendCommand _ | .transferRegion _ | .fillRegion _ _
  | .transferFullFrame | .setRefreshRate _ | .refreshTick | .hostRead _ _ | .hostWrite _ _
  | .configureOutputs | .setLine _ _ | .writeParallelByte _ | .writeCommand _ | .writeData _ | .delay _
  | .validate _ | .setWindow _ => none

/-! ### Words as the opcode table numbers them -/

/-- How many argument words follow a command word (R92; the payload of `0x2C` is not counted). -/
def argumentCount (opcode : Byte) : Nat :=
  if opcode = 0x2A#8 ∨ opcode = 0x2B#8 then 4 else if opcode = 0x3A#8 then 1 else 0

/-- The bus words of an instruction given as one number. DESIGN CHOICE (log 4): bits 8:0 are the first bus word and
bits 15:9 must be zero; the argument words follow as one byte each from bit 16 up, and an argument word's DC bit is 1
by its place in the frame (R91). A number that is no bus word lays out as no words, which decodes as nothing. -/
def layoutWords (nbits w : Nat) : List BusWord :=
  let v := w % 2 ^ nbits
  let first := v % 2 ^ 16
  if first < 512 then
    let head : BusWord := BitVec.ofNat 9 first
    let n := if BusWord.isData head then 0 else argumentCount (BusWord.byte head)
    head :: (List.range n).map fun k => dataBusWord (BitVec.ofNat 8 (v / 2 ^ (16 + 8 * k)))
  else []

/-- The instruction the decoder reads from the table's bits `w`; `none` where it refuses. -/
def decodeTableWord (nbits w : Nat) : Option Instr :=
  match decodeFrame (layoutWords nbits w) with
  | .ok (i, _) => some i
  | .error _ => none

end Sys2Proof
end

