-- ==== Sys2Proof/Machine/State.lean ====
section
/-! DEFINITION. The state record of spec/10_state.md R21, field for field, as plain data, and beside it the model's own
fields: the script of a running request (R34), the requests held at the two ports (R36, R71), what was returned
(R251), and the environment's input (the hosts' pending operations and the order in which the agents move, R20, R79). -/

namespace Sys2Proof.Machine

open Sys2Proof

/-- `mode[L]` (R23). There is no input mode. -/
inductive LineMode where
  | unset
  | output
  deriving DecidableEq, Repr

/-- `level[L]` (R24). -/
inductive Level where
  | undriven
  /-- 0 -/
  | low
  /-- 1 -/
  | high
  deriving DecidableEq, Repr

/-- How far the instance has been brought up (R28). -/
inductive Phase where
  | detached
  | configured
  | initialized
  deriving DecidableEq, Repr

/-- The buffer's mutual-exclusion lock (R33). -/
inductive Lock where
  | free
  | heldByTransfer
  deriving DecidableEq, Repr

/-- The engine (R36). -/
inductive Engine where
  | idle
  | busy
  deriving DecidableEq, Repr

/-- The four kinds of line event (R17). -/
inductive Event where
  /-- `Mode(L, Output)` -/
  | mode (l : Line)
  /-- `Level(L, v)`, `true` for 1 -/
  | level (l : Line) (v : Bool)
  /-- `Byte(b)` -/
  | byte (b : Byte)
  /-- `Delay(ms)`: at least `ms` milliseconds pass before the next event -/
  | delay (ms : Nat)
  deriving DecidableEq, Repr

/-- The five statuses (R251). -/
inductive Status where
  | ok
  | initFailed
  | invalidArgument
  | outOfRange
  | sizeMismatch
  deriving DecidableEq, Repr

/-- What an operation returns: a status (R251), with the bytes of a HOST_READ (R223) or the count of a HOST_WRITE
(R224); VALIDATE's result is a truth value (R171). -/
inductive Result where
  | status (st : Status)
  | read (st : Status) (bytes : List Byte)
  | written (st : Status) (count : Nat)
  | validity (valid : Bool)
  deriving DecidableEq, Repr

/-- The agents that present operations (R20). The engine presents none. -/
inductive Agent where
  | host (k : Nat)
  | timer
  deriving DecidableEq, Repr

/-- One returned result: to whom, for what, and what (R251). -/
structure Reply where
  agent : Agent
  op : HostOp
  result : Result
  deriving DecidableEq, Repr

/-- The failed check a fault names (R258). -/
inductive FailedCheck where
  | phaseIsDetached
  | phaseIsNotDetached
  | phaseIsConfigured
  deriving DecidableEq, Repr

/-- Where an internal operation was entered against its precondition (R258). -/
inductive Site where
  /-- SET_LINE before CONFIGURE_OUTPUTS (R122) -/
  | setLineUnset (l : Line)
  /-- WRITE_PARALLEL_BYTE before CONFIGURE_OUTPUTS (R123) -/
  | busUnset
  /-- SET_WINDOW with an invalid rectangle (R173) -/
  | setWindowInvalid (r : Rect)
  /-- a buffer access outside `[0, BUF_SIZE)` or with no buffer (R61); no rule makes one (log 15) -/
  | bufferAccess (off : Nat)
  deriving DecidableEq, Repr

/-- The faults of R258. A meaning records one in the state's field `fault` and answers a next state (R41); a step from a
state that holds one answers it as its outcome, because no agent steps after a fault (R259). Each is safe: faulting
where the driver might go on errs toward unprovable (R259). -/
inductive Fault where
  /-- raised by every request but ATTACH in phase Detached; safe -/
  | notAttached (request : Instr) (check : FailedCheck)
  /-- raised by ATTACH when not Detached; safe -/
  | alreadyAttached (request : Instr) (check : FailedCheck)
  /-- raised by the three transfers and REFRESH_TICK in phase Configured; safe -/
  | notInitialized (request : Instr) (check : FailedCheck)
  /-- raised by an internal operation entered against its precondition; safe -/
  | precondition (site : Site)
  deriving DecidableEq, Repr

/-- The forms the model gives no meaning (R260), and what no port accepts. Each is safe: no claim about a run that
meets one is provable. -/
inductive Refusal where
  /-- raised by exec for an instruction that has no meaning yet; safe -/
  | notModelled (mnemonic : String)
  /-- `R_MEMWRITE_WITHOUT_WINDOW`, raised by SEND_COMMAND(MemoryWrite) (R150); safe -/
  | memWriteWithoutWindow
  /-- `R_BAD_CFG`, raised by ATTACH with a configuration outside R9's constraints (R221); safe -/
  | badCfg
  /-- `R_BLIT_LENGTH`, raised by HOST_BLIT with a source of the wrong length (R228); safe -/
  | blitLength
  /-- raised by a step in which a host presents what no port accepts from it (R98, R230); safe -/
  | notAcceptedAtPort (i : Instr)
  /-- raised by a step that is given words which are no frame of this block (R100); safe -/
  | undecodable (e : DecodeError)
  /-- raised by a data word by itself where no frame has a place for it (R91, R99): it is no word of this block; safe -/
  | dataOutsideFrame (b : Byte)
  deriving DecidableEq, Repr

/-- The sub-steps a request's event script is made of (R34): the primitives of R13, each an event, and the assignments
a rule's pseudocode makes between events. -/
inductive SubOp where
  /-- `mode[L] <- Output` -/
  | setMode (l : Line)
  /-- `line[L] <- v`, as SET_LINE (R122) -/
  | setLine (l : Line) (v : Bool)
  /-- `bus <- b`, as WRITE_PARALLEL_BYTE (R123) -/
  | bus (b : Byte)
  /-- `bus <- MemRead(off, 1)` (R192) -/
  | busPixel (off : Nat)
  /-- `delay(ms)` (R153) -/
  | delay (ms : Nat)
  /-- ATTACH's assignments before CONFIGURE_OUTPUTS (R221) -/
  | allocate (cfg : Cfg)
  /-- DETACH's assignments (R222, R44) -/
  | release
  /-- `phase <- p` -/
  | setPhase (p : Phase)
  /-- `timer_armed <- v` -/
  | setTimer (v : Bool)
  /-- `refresh_hz <- hz` -/
  | setRate (hz : Nat)
  /-- `lock <- l` -/
  | setLock (l : Lock)
  /-- `last_col <- v` -/
  | setLastCol (v : Option (U16 × U16))
  /-- `last_row <- v` -/
  | setLastRow (v : Option (U16 × U16))
  /-- `stream_pending <- n` -/
  | setPending (n : Nat)
  /-- `stream_pending <- stream_pending - 1` -/
  | decPending
  /-- `return`: the engine is Idle again (R36), and the result goes to its requester, if it has one -/
  | ret (reply : Option Reply)
  deriving DecidableEq, Repr

/-- A request held at a port, with the agent that waits for it (R36, R71). -/
structure Held where
  agent : Agent
  request : Instr
  deriving DecidableEq, Repr

/-- How a presented engine request runs: its whole script in one step, as the request port sees it (R14, R70), or event
by event, so that other agents may move in between (R34, R74). -/
inductive View where
  | whole
  | stepped
  deriving DecidableEq, Repr

/-- One move of the environment's schedule (R79): any list of them is admitted. -/
inductive Turn where
  /-- an agent presents its next operation -/
  | present (agent : Agent) (view : View)
  /-- the engine emits the next event of the running script, or ends its last delay (log 7) -/
  | engine
  /-- the idle engine takes the `n`-th request held at its port -/
  | serveEngine (n : Nat) (view : View)
  /-- the buffer port serves the `n`-th operation it holds, if the lock is free -/
  | serveBuffer (n : Nat)
  /-- the engine is given the bus words of a frame to emit (log 4) -/
  | frame (words : List BusWord)
  deriving DecidableEq, Repr

/-- The pixel buffer's bytes: the bytes that differ from 0x00, addresses strictly rising (Ops says the canonical form).
ATTACH zero-initialises the buffer (R32), so an unlisted offset reads 0x00. -/
abbrev Memory := List Host.Cell

structure State where
  /-- R23 -/
  mode : ByLine LineMode
  /-- R24 -/
  level : ByLine Level
  /-- R28 -/
  phase : Phase
  /-- R29 -/
  timerArmed : Bool
  /-- R30 -/
  refreshHz : Nat
  /-- R31 -/
  cfg : Cfg
  /-- R32 -/
  buffer : Option Memory
  /-- R33 -/
  lock : Lock
  /-- R36 -/
  engine : Engine
  /-- ghost, R37 -/
  lastCol : Option (U16 × U16)
  /-- ghost, R37 -/
  lastRow : Option (U16 × U16)
  /-- ghost, R38 -/
  streamPending : Nat
  /-- R40, oldest event first -/
  trace : List Event
  /-- R41, sticky -/
  fault : Option Fault
  /-- model's own: what is left of the running request's script (R34) -/
  script : List SubOp
  /-- model's own: requests held at the engine port (R36) -/
  enginePort : List Held
  /-- model's own: HOST_WRITEs held at the buffer port (R71) -/
  bufferPort : List Held
  /-- model's own: everything returned so far, oldest first (R251) -/
  returned : List Reply
  /-- model's own: per host agent, the operations it will present, in order (R20) -/
  hosts : List (List HostOp)
  /-- model's own: the agent whose operation is being run -/
  caller : Agent
  /-- model's own: the moves to come (R79) -/
  schedule : List Turn
  deriving DecidableEq, Repr

/-- The initial state of R43. `refresh_hz` and `cfg` are unspecified there: the values are DESIGN CHOICE (log 1). The
model's own fields start empty (log 3). -/
def State.reset : State :=
  { mode := ByLine.const .unset
    level := ByLine.const .undriven
    phase := .detached
    timerArmed := false
    refreshHz := 25
    cfg := Config.thisHardware
    buffer := none
    lock := .free
    engine := .idle
    lastCol := none
    lastRow := none
    streamPending := 0
    trace := []
    fault := none
    script := []
    enginePort := []
    bufferPort := []
    returned := []
    hosts := []
    caller := .host 0
    schedule := [] }

end Sys2Proof.Machine
end

