-- ==== Sys2Proof/Machine/Operands.lean ====
section
/-! DEFINITION. What the operands of a request stand for: lines and levels (spec/10_state.md R22 to R27), rectangles,
their validity and the two axes of a window (spec/42_window_translator.md R170 to R180), pixel offsets and values
(spec/20_memory.md R62, R66), and the bytes of a colour (R64). -/

namespace Sys2Proof

/-! ### Lines -/

/-- The 13 lines in the order of CONFIGURE_OUTPUTS (R120). -/
def Line.all : List Line := [.d0, .d1, .d2, .d3, .d4, .d5, .d6, .d7, .dc, .cs, .rd, .wr, .rst]

/-- The idle level of a line (R120, R121): data lines and CS low, the others high. -/
def Line.idle : Line → Bool
  | .d0 | .d1 | .d2 | .d3 | .d4 | .d5 | .d6 | .d7 | .cs => false
  | .dc | .rd | .wr | .rst => true

/-- The value held for one line. -/
def ByLine.get {α : Type} (f : ByLine α) : Line → α
  | .d0 => f.d0
  | .d1 => f.d1
  | .d2 => f.d2
  | .d3 => f.d3
  | .d4 => f.d4
  | .d5 => f.d5
  | .d6 => f.d6
  | .d7 => f.d7
  | .dc => f.dc
  | .cs => f.cs
  | .rd => f.rd
  | .wr => f.wr
  | .rst => f.rst

/-- The line registers with one line's value replaced. -/
def ByLine.set {α : Type} (f : ByLine α) (l : Line) (a : α) : ByLine α :=
  match l with
  | .d0 => { f with d0 := a }
  | .d1 => { f with d1 := a }
  | .d2 => { f with d2 := a }
  | .d3 => { f with d3 := a }
  | .d4 => { f with d4 := a }
  | .d5 => { f with d5 := a }
  | .d6 => { f with d6 := a }
  | .d7 => { f with d7 := a }
  | .dc => { f with dc := a }
  | .cs => { f with cs := a }
  | .rd => { f with rd := a }
  | .wr => { f with wr := a }
  | .rst => { f with rst := a }

/-! ### Rectangles -/

/-- `valid(r)` against a surface of `c.width` by `c.height` pixels, on unbounded naturals (R171). -/
def Rect.validIn (r : Rect) (c : Cfg) : Bool :=
  decide (r.x + r.width ≤ c.width) && decide (r.y + r.height ≤ c.height)

/-- The full panel (R181). -/
def Cfg.fullPanel (c : Cfg) : Rect := { x := 0, y := 0, width := c.width, height := c.height }

/-- `BUF_SIZE` (R10). -/
def Cfg.bufSize (c : Cfg) : Nat := c.width * c.height * Config.bppBytes

/-- The window bounds on one axis: origin, and origin plus extent (R176). -/
def axisBounds (origin extent : Nat) : U16 × U16 :=
  (BitVec.ofNat 16 origin, BitVec.ofNat 16 (origin + extent))

/-- The x-range of a rectangle (R174). -/
def Rect.xRange (r : Rect) : U16 × U16 := axisBounds r.x r.width

/-- The y-range of a rectangle (R174). -/
def Rect.yRange (r : Rect) : U16 × U16 := axisBounds r.y r.height

/-- The two address frames of a window in the order they are sent, `axes` of R180: which command goes first, and which
axis each carries. -/
def windowCommands (o : Orientation) (r : Rect) : List Command :=
  match o with
  | .landscape => [.setColumnAddress r.xRange.1 r.xRange.2, .setRowAddress r.yRange.1 r.yRange.2]
  | .portrait => [.setRowAddress r.xRange.1 r.xRange.2, .setColumnAddress r.yRange.1 r.yRange.2]

/-- The pixels of a rectangle in payload order: row-major, y outer, x inner, in both orientations (R191). -/
def Rect.pixels (r : Rect) : List (Nat × Nat) :=
  (List.range' r.y r.height).flatMap fun py => (List.range' r.x r.width).map fun px => (px, py)

/-! ### Pixels and colours -/

/-- `pix_off(px, py)`, with the surface width as the stride in both orientations (R62). -/
def Cfg.pixOff (c : Cfg) (px py : Nat) : Nat := 2 * (py * c.width + px)

/-- Where a transfer's pixels come from (R192, R193). -/
inductive PixelSource where
  | buffer
  | color (c : U16)
  deriving DecidableEq, Repr

/-- The 16-bit value of two buffer bytes, the low byte at the even offset (R66). -/
def rgb565 (even odd : Byte) : U16 := join16 odd even

namespace Machine

/-- The level a bit drives (R13). -/
def Level.ofBool (v : Bool) : Level := if v then .high else .low

/-- The bit a level stands for; `none` while the line is undriven (R24). -/
def Level.toBool? : Level → Option Bool
  | .undriven => none
  | .low => some false
  | .high => some true

end Machine

open Machine

/-- All eight data lines driven at once from a byte, bit `i` on line `Di` (R123, R124). -/
def ByLine.driveByte (f : ByLine Level) (b : Byte) : ByLine Level :=
  { f with
    d0 := Level.ofBool (b.getLsbD 0)
    d1 := Level.ofBool (b.getLsbD 1)
    d2 := Level.ofBool (b.getLsbD 2)
    d3 := Level.ofBool (b.getLsbD 3)
    d4 := Level.ofBool (b.getLsbD 4)
    d5 := Level.ofBool (b.getLsbD 5)
    d6 := Level.ofBool (b.getLsbD 6)
    d7 := Level.ofBool (b.getLsbD 7) }

/-- `databus`: the byte on the data lines; `none` while any of them is undriven (R27). -/
def ByLine.databus (f : ByLine Level) : Option Byte :=
  match f.d7.toBool?, f.d6.toBool?, f.d5.toBool?, f.d4.toBool?, f.d3.toBool?, f.d2.toBool?, f.d1.toBool?, f.d0.toBool? with
  | some b7, some b6, some b5, some b4, some b3, some b2, some b1, some b0 =>
    some (BitVec.ofBoolListBE [b7, b6, b5, b4, b3, b2, b1, b0])
  | _, _, _, _, _, _, _, _ => none

/-- Whether all eight data lines are configured as outputs (R123). -/
def ByLine.dataOutputs (f : ByLine LineMode) : Bool :=
  [f.d0, f.d1, f.d2, f.d3, f.d4, f.d5, f.d6, f.d7].all fun m => m == .output

end Sys2Proof
end

