-- ==== Sys2Proof/Machine/Flags.lean ====
section
/-! DEFINITION. The block has no condition codes (spec/10_state.md R35): the only status a program sees is the result a
request returns. Here are the numeric status codes and the two computations that choose a status
(spec/60_exceptions.md R251, R253, R255). -/

namespace Sys2Proof.Machine

open Sys2Proof

/-- The numeric code of a status (R251). -/
def Status.code : Status → Nat
  | .ok => 0
  | .initFailed => 1
  | .invalidArgument => 2
  | .outOfRange => 3
  | .sizeMismatch => 4

/-- The length of a host access that starts at `off`, clamped to the space left (R225). -/
def clampLength (off len size : Nat) : Nat := min len (size - off)

/-- The status of a host access that starts inside the buffer: a clamped one is a size mismatch (R223, R224, R255). -/
def clampStatus (off len size : Nat) : Status :=
  if clampLength off len size < len then .sizeMismatch else .ok

/-- Whether a refresh rate is legal: `1 .. max_refresh_hz` (R30, R229). -/
def rateLegal (hz : Nat) (c : Cfg) : Bool := decide (1 ≤ hz ∧ hz ≤ c.maxRefreshHz)

end Sys2Proof.Machine
end

