-- ==== Sys2Proof/Machine/Ops.lean ====
section
/-! DEFINITION. The named operations over memory and the line registers (spec/20_memory.md, spec/40_bus_lines.md), the
one way a fault is raised (spec/60_exceptions.md R258, R259), the sub-steps a script is made of and how a script runs
(spec/10_state.md R34, R36), and how a request enters at the engine port. There is no return from a fault: it is
sticky, and nothing clears it (R259, R266). -/

namespace Sys2Proof.Machine

open Sys2Proof

/-! ### The pixel buffer -/

/-- What an offset that is not listed reads as: ATTACH zero-initialises the buffer (R32). -/
def Memory.blank : Byte := 0#8

/-- The byte at an offset. -/
def Memory.read : Memory → Nat → Byte
  | [], _ => Memory.blank
  | (a, b) :: m, off => if a = off then b else Memory.read m off

/-- The canonical form, with every address at least `lo`: addresses strictly rising, no entry equal to the blank. -/
def Memory.wfFrom : Nat → Memory → Bool
  | _, [] => true
  | lo, (a, b) :: m => decide (lo ≤ a) && b != Memory.blank && Memory.wfFrom (a + 1) m

/-- The canonical form of a buffer: equal contents are equal lists. -/
def Memory.wf (m : Memory) : Bool := Memory.wfFrom 0 m

/-- Every listed address lies below `size` (R225). -/
def Memory.within (m : Memory) (size : Nat) : Bool := m.all fun c => decide (c.1 < size)

/-- A cell in front of a list, unless it holds the blank. -/
def Memory.cons (off : Nat) (b : Byte) (m : Memory) : Memory := if b = Memory.blank then m else (off, b) :: m

/-- One byte written; the canonical form is kept. -/
def Memory.write : Memory → Nat → Byte → Memory
  | [], off, b => Memory.cons off b []
  | (a, c) :: m, off, b =>
    if off < a then Memory.cons off b ((a, c) :: m)
    else if off = a then Memory.cons off b m
    else (a, c) :: Memory.write m off b

/-- `MemRead(off, n)` inside the bounds: `n` bytes in increasing offset order (R13). -/
def Memory.readBytes (m : Memory) (off n : Nat) : List Byte := (List.range' off n).map m.read

/-- `MemWrite(off, n, v)` inside the bounds, `n` being the length of `v` (R13). -/
def Memory.writeBytes : Memory → Nat → List Byte → Memory
  | m, _, [] => m
  | m, off, b :: bs => Memory.writeBytes (m.write off b) (off + 1) bs

/-- The byte the buffer holds at an offset; `none` where there is no buffer or the offset is outside it (R61). -/
def State.bufferByte (s : State) (off : Nat) : Option Byte :=
  match s.buffer with
  | none => none
  | some m => if off < s.cfg.bufSize then some (m.read off) else none

/-- The 16-bit RGB565 value of the pixel at `(px, py)` (R66). -/
def State.pixelValue (s : State) (px py : Nat) : Option U16 :=
  match s.bufferByte (s.cfg.pixOff px py), s.bufferByte (s.cfg.pixOff px py + 1) with
  | some even, some odd => some (rgb565 even odd)
  | _, _ => none

/-! ### Faults -/

/-- `raise <Fault>(info)`: the fault is recorded, and nothing else changes (R41, R258). No state is saved and control
goes nowhere (R265); no agent steps from the state that results (R259). -/
def State.raise (s : State) (f : Fault) : State := { s with fault := some f }

/-! ### Line events -/

/-- One event appended to the trace (R40). -/
def State.emit (s : State) (e : Event) : State := { s with trace := s.trace ++ [e] }

/-- `mode[L] <- Output` (R13, R23). -/
def State.configureLine (s : State) (l : Line) : State :=
  { s with mode := s.mode.set l .output, trace := s.trace ++ [.mode l] }

/-- `line[L] <- v` (R13, R24). -/
def State.driveLine (s : State) (l : Line) (v : Bool) : State :=
  { s with level := s.level.set l (Level.ofBool v), trace := s.trace ++ [.level l v] }

/-- `bus <- b` (R13, R123). -/
def State.driveBus (s : State) (b : Byte) : State :=
  { s with level := s.level.driveByte b, trace := s.trace ++ [.byte b] }

/-- SET_LINE, with its precondition (R122). -/
def setLineOp (l : Line) (v : Bool) (s : State) : State :=
  if s.mode.get l = .output then s.driveLine l v else s.raise (.precondition (.setLineUnset l))

/-- WRITE_PARALLEL_BYTE, with its precondition (R123). -/
def busOp (b : Byte) (s : State) : State :=
  if s.mode.dataOutputs then s.driveBus b else s.raise (.precondition .busUnset)

/-- `bus <- MemRead(off, 1)`, the byte read as the event is emitted (R192). -/
def busPixelOp (off : Nat) (s : State) : State :=
  match s.bufferByte off with
  | some b => busOp b s
  | none => s.raise (.precondition (.bufferAccess off))

/-! ### Instance state -/

/-- ATTACH's assignments before CONFIGURE_OUTPUTS (R221). -/
def State.allocate (s : State) (cfg : Cfg) : State :=
  { s with
    cfg := cfg
    buffer := some []
    refreshHz := cfg.refreshHzDefault
    lock := .free
    streamPending := 0
    lastCol := none
    lastRow := none
    timerArmed := false }

/-- DETACH's assignments (R222); the lock becomes free as R44 says (log 16). -/
def State.release (s : State) : State :=
  { s with
    timerArmed := false
    buffer := none
    mode := ByLine.const .unset
    level := ByLine.const .undriven
    lock := .free
    lastCol := none
    lastRow := none
    streamPending := 0
    phase := .detached }

/-- `phase <- p` (R28). -/
def State.setPhase (s : State) (p : Phase) : State := { s with phase := p }

/-- `timer_armed <- v` (R29). -/
def State.setTimer (s : State) (v : Bool) : State := { s with timerArmed := v }

/-- `refresh_hz <- hz` (R30). -/
def State.setRate (s : State) (hz : Nat) : State := { s with refreshHz := hz }

/-- `lock <- l` (R33). -/
def State.setLock (s : State) (l : Lock) : State := { s with lock := l }

/-- `last_col <- v` (R37). -/
def State.setLastCol (s : State) (v : Option (U16 × U16)) : State := { s with lastCol := v }

/-- `last_row <- v` (R37). -/
def State.setLastRow (s : State) (v : Option (U16 × U16)) : State := { s with lastRow := v }

/-- `stream_pending <- n` (R38). -/
def State.setPending (s : State) (n : Nat) : State := { s with streamPending := n }

/-- The buffer's contents replaced, as MemWrite does (R13). -/
def State.setBuffer (s : State) (m : Memory) : State := { s with buffer := some m }

/-- `engine <- e` (R36). -/
def State.setEngine (s : State) (e : Engine) : State := { s with engine := e }

/-- What is left of the running script (R34). -/
def State.setScript (s : State) (ops : List SubOp) : State := { s with script := ops }

/-- A result returned to the agent that asked (R251). -/
def State.reply (s : State) (r : Reply) : State := { s with returned := s.returned ++ [r] }

/-- `return`: the engine is Idle (R36) and the result goes to its requester; a tick's status goes to no one (R230). -/
def State.finish (s : State) : Option Reply → State
  | none => s.setEngine .idle
  | some r => (s.setEngine .idle).reply r

/-! ### Scripts -/

/-- One sub-step of a script. -/
def runOp (op : SubOp) (s : State) : State :=
  match op with
  | .setMode l => s.configureLine l
  | .setLine l v => setLineOp l v s
  | .bus b => busOp b s
  | .busPixel off => busPixelOp off s
  | .delay ms => s.emit (.delay ms)
  | .allocate cfg => s.allocate cfg
  | .release => s.release
  | .setPhase p => s.setPhase p
  | .setTimer v => s.setTimer v
  | .setRate hz => s.setRate hz
  | .setLock l => s.setLock l
  | .setLastCol v => s.setLastCol v
  | .setLastRow v => s.setLastRow v
  | .setPending n => s.setPending n
  | .decPending => s.setPending (s.streamPending - 1)
  | .ret reply => s.finish reply

/-- A script from its first sub-step to its last, in order (R14); a fault ends it where it is raised (R13). -/
def runScript : List SubOp → State → State
  | [], s => s
  | op :: ops, s => if (runOp op s).fault.isSome then runOp op s else runScript ops (runOp op s)

/-- The sub-steps that emit an event (R17). -/
def SubOp.isEvent : SubOp → Bool
  | .setMode _ | .setLine _ _ | .bus _ | .busPixel _ | .delay _ => true
  | .allocate _ | .release | .setPhase _ | .setTimer _ | .setRate _ | .setLock _ | .setLastCol _ | .setLastRow _
  | .setPending _ | .decPending | .ret _ => false

/-- A delay (R153). -/
def SubOp.isDelay : SubOp → Bool
  | .delay _ => true
  | .setMode _ | .setLine _ _ | .bus _ | .busPixel _ | .allocate _ | .release | .setPhase _ | .setTimer _ | .setRate _
  | .setLock _ | .setLastCol _ | .setLastRow _ | .setPending _ | .decPending | .ret _ => false

/-- The assignments that lead a script. -/
def leading (ops : List SubOp) : List SubOp := ops.takeWhile fun op => !op.isEvent

/-- The script from its first event on. -/
def fromEvent (ops : List SubOp) : List SubOp := ops.dropWhile fun op => !op.isEvent

/-- The assignments that ride with an event: those up to the next event. With a delay rides nothing: until its time has
passed the engine is at the delay, Busy (R153), and what follows waits for the move that ends the delay (log 7). -/
def ridesWith (op : SubOp) (rest : List SubOp) : List SubOp := if op.isDelay then [] else leading rest

/-- What is left of a script after an event and what rides with it. -/
def leftAfter (op : SubOp) (rest : List SubOp) : List SubOp := if op.isDelay then rest else fromEvent rest

/-- The part of a script that one move of the engine runs: up to its first event, and the assignments that ride with that
event (R34: the position advances by exactly one event per sub-step). -/
def oneEvent (ops : List SubOp) : List SubOp :=
  match fromEvent ops with
  | [] => leading ops
  | op :: rest => leading ops ++ op :: ridesWith op rest

/-- What `oneEvent` leaves of a script. -/
def afterEvent (ops : List SubOp) : List SubOp :=
  match fromEvent ops with
  | [] => []
  | op :: rest => leftAfter op rest

/-- The engine's move while it is Busy: one event of the running script (R34); where a delay was the script's last event,
the end of that delay, and with it the return (R153). -/
def engineMove (s : State) : State := runScript (oneEvent s.script) (s.setScript (afterEvent s.script))

/-- `k` moves of the engine and of nobody else; it stops at a fault or when the script is at its end. -/
def engineMoves : Nat → State → State
  | 0, s => s
  | k + 1, s => if s.fault.isSome || s.script.isEmpty then s else engineMoves k (engineMove s)

/-! ### Bus words and windows -/

/-- The four events of one bus write cycle: DC, the byte, WR low, WR high (R140, R141, R125). -/
def cycle (dc : Bool) (b : Byte) : List SubOp := [.setLine .dc dc, .bus b, .setLine .wr false, .setLine .wr true]

/-- `emit C(b)` (R140). -/
def emitC (b : Byte) : List SubOp := cycle false b

/-- `emit D(b)` (R141). -/
def emitD (b : Byte) : List SubOp := cycle true b

/-- `emit D(MemRead(off, 1))` (R192). -/
def emitDFrom (off : Nat) : List SubOp :=
  [.setLine .dc true, .busPixel off, .setLine .wr false, .setLine .wr true]

/-- The cycle primitive of one bus word (R96, R142). -/
def emitWord (w : BusWord) : List SubOp := cycle (BusWord.isData w) (BusWord.byte w)

/-- The ghost window update after a frame (R156). -/
def ghostUpdate : Command → List SubOp
  | .setColumnAddress s e => [.setLastCol (some (s, e))]
  | .setRowAddress s e => [.setLastRow (some (s, e))]
  | .reset | .sleepOut | .setPixelFormat _ | .memoryWrite | .displayOn => []

/-- `EMIT_FRAME(cmd)` (R142), with the ghost update once its last word is emitted (R156). -/
def emitFrame (cmd : Command) : List SubOp := (encodeCommand cmd).flatMap emitWord ++ ghostUpdate cmd

/-- SET_WINDOW past its precondition: both address frames in orientation order, memory write, and the count of payload
bytes the stream then owes (R174, R175, R177). -/
def setWindowScript (c : Cfg) (r : Rect) : List SubOp :=
  (windowCommands c.orientation r).flatMap emitFrame ++ emitFrame .memoryWrite
    ++ [.setPending (2 * r.width * r.height)]

/-- CONFIGURE_OUTPUTS: mode then idle level, line by line (R120). -/
def configureScript : List SubOp := Line.all.flatMap fun l => [.setMode l, .setLine l l.idle]

/-! ### The engine port -/

/-- What an engine-port request comes to in the state it is taken in: a refusal by its form (R260), a fault (R258), or
a script that ends in `return`. -/
inductive Plan where
  | refuse (r : Refusal)
  | fault (f : Fault)
  | script (ops : List SubOp)
  deriving DecidableEq, Repr

/-- A request held at the engine port, with the agent that waits for it (R36). -/
def State.holdEngine (s : State) (i : Instr) : State :=
  { s with enginePort := s.enginePort ++ [{ agent := s.caller, request := i }] }

/-- An operation held at the buffer port (R71). -/
def State.holdBuffer (s : State) (i : Instr) : State :=
  { s with bufferPort := s.bufferPort ++ [{ agent := s.caller, request := i }] }

/-- A script run whole: the engine is Busy for it (R36), and the request port sees one step (R14, R70). -/
def runWhole (ops : List SubOp) (s : State) : State := runScript ops (s.setEngine .busy)

/-- A script begun: the assignments before its first event are made, and the rest waits for the engine's moves (R34). -/
def beginScript (ops : List SubOp) (s : State) : State :=
  runScript (leading ops) ((s.setEngine .busy).setScript (fromEvent ops))

/-- A request presented at the engine port: refused by its form (R103, R260), held while the engine is Busy (R36), else
run as its plan says. -/
def presentEngine (view : View) (i : Instr) (plan : Plan) (s : State) : Host.Outcome State Fault Refusal :=
  match plan with
  | .refuse r => .refused r
  | .fault f => if s.engine = .busy then .next (s.holdEngine i) else .next (s.raise f)
  | .script ops =>
    if s.engine = .busy then .next (s.holdEngine i)
    else match view with
      | .whole => .next (runWhole ops s)
      | .stepped => .next (beginScript ops s)

/-- `return status` at the end of a script (R251). -/
def retStatus (s : State) (i : Instr) (st : Status) : SubOp :=
  .ret (some { agent := s.caller, op := .request i, result := .status st })

/-- The fault of any request but ATTACH in phase Detached (R258). -/
def faultNotAttached (i : Instr) : Fault := .notAttached i .phaseIsDetached

/-- The fault of a transfer or a tick in phase Configured (R258). -/
def faultNotInitialized (i : Instr) : Fault := .notInitialized i .phaseIsConfigured

end Sys2Proof.Machine
end

