-- ==== Sys2Proof/Machine/BusLines.lean ====
section
/-! DEFINITION. The Bus Line Controller (spec/40_bus_lines.md): CONFIGURE_OUTPUTS, SET_LINE and WRITE_PARALLEL_BYTE.
They are internal operations (spec/30_encoding.md R98): sub-steps of a request's script, run by themselves here
(log 6). None returns a status (R126). -/

namespace Sys2Proof.Machine

open Sys2Proof

/-- CONFIGURE_OUTPUTS (R120). -/
def execConfigureOutputs (s : State) : Host.Outcome State Fault Refusal := .next (runScript configureScript s)

/-- SET_LINE (R122). -/
def execSetLine (l : Line) (v : Bool) (s : State) : Host.Outcome State Fault Refusal := .next (setLineOp l v s)

/-- WRITE_PARALLEL_BYTE (R123). -/
def execWriteParallelByte (b : Byte) (s : State) : Host.Outcome State Fault Refusal := .next (busOp b s)

end Sys2Proof.Machine
end

