-- ==== Sys2Proof/Machine/Trace.lean ====
section
/-! DEFINITION. Reading the trace (spec/40_bus_lines.md R127): the bus write cycles and the observable projection
`obs`, on which the test vectors of spec/95_test_vectors.md are stated. -/

namespace Sys2Proof.Machine

open Sys2Proof

/-- The items `obs` keeps (R127). -/
inductive Obs where
  /-- a bus write cycle, `C(b)` or `D(b)` -/
  | word (w : BusWord)
  /-- `RST=v` -/
  | rst (v : Bool)
  /-- `Delay(ms)` -/
  | delay (ms : Nat)
  deriving DecidableEq, Repr

/-- What a reader of the trace remembers: the levels so far, and the word that stood on the lines when WR last fell, if
WR has not moved since (log 20). -/
structure Reader where
  level : ByLine Level
  fallen : Option BusWord
  deriving DecidableEq, Repr

/-- A reader at the start of a trace: nothing is driven (R43). -/
def Reader.start : Reader := { level := ByLine.const .undriven, fallen := none }

/-- The bus word on the lines, DC and `databus`; `none` while a line of them is undriven (R127, R27). -/
def ByLineLevel.busWord (f : ByLine Level) : Option BusWord :=
  match f.dc.toBool?, f.databus with
  | some dc, some b => some (if dc then dataBusWord b else commandWord b)
  | _, _ => none

/-- The reader after an event. -/
def Reader.next (r : Reader) : Event → Reader
  | .mode _ => r
  | .level .wr false => { level := r.level.set .wr .low, fallen := ByLineLevel.busWord r.level }
  | .level .wr true => { level := r.level.set .wr .high, fallen := none }
  | .level l v => { r with level := r.level.set l (Level.ofBool v) }
  | .byte b => { r with level := r.level.driveByte b }
  | .delay _ => r

/-- What an event adds to the projection: a rising WR ends the cycle its fall began (R127). -/
def Reader.item (r : Reader) : Event → List Obs
  | .level .wr true => match r.fallen with
    | some w => [.word w]
    | none => []
  | .level .rst v => [.rst v]
  | .delay ms => [.delay ms]
  | .mode _ | .level _ _ | .byte _ => []

/-- The projection of the events from a point of the trace on. -/
def obsFrom : Reader → List Event → List Obs
  | _, [] => []
  | r, e :: es => r.item e ++ obsFrom (r.next e) es

/-- `obs(trace)` (R127). -/
def obs (trace : List Event) : List Obs := obsFrom Reader.start trace

/-- The bus words of a projection, in order. -/
def Obs.words : List Obs → List BusWord
  | [] => []
  | .word w :: os => w :: Obs.words os
  | .rst _ :: os => Obs.words os
  | .delay _ :: os => Obs.words os

/-- The bus words a trace carries. -/
def busWords (trace : List Event) : List BusWord := Obs.words (obs trace)

/-- The frame the words so far leave open: the nearest preceding command word's opcode, and how many data words came after
it (R91, R99). -/
def frameAfter (frame : Option (Byte × Nat)) (w : BusWord) : Option (Byte × Nat) :=
  if BusWord.isData w then frame.map fun f => (f.1, f.2 + 1) else some (BusWord.byte w, 0)

/-- The frame a trace is in; `none` before the first command word. -/
def currentFrame (trace : List Event) : Option (Byte × Nat) := (busWords trace).foldl frameAfter none

/-- What one more data word would be: the payload of a memory write, which goes on to the next command word (R102), an
argument of a frame that has a place left (R92), or no word of this block (R99). -/
inductive DataPlace where
  | payload
  | argument
  | outside
  deriving DecidableEq, Repr

/-- Where a data word stands after a trace. -/
def dataPlace (trace : List Event) : DataPlace :=
  match currentFrame trace with
  | none => .outside
  | some (opcode, n) =>
    if opcode = 0x2C#8 then .payload else if n < argumentCount opcode then .argument else .outside

/-- The four events of one bus write cycle (R140, R141). -/
def wordEvents (w : BusWord) : List Event :=
  [.level .dc (BusWord.isData w), .byte (BusWord.byte w), .level .wr false, .level .wr true]

/-- The events of a word list, cycle by cycle (R142). -/
def wordsEvents (ws : List BusWord) : List Event := ws.flatMap wordEvents

/-- The line levels one bus write cycle leaves: DC, the data lines and WR; the others stay (R140, R141). -/
def levelsAfterWord (f : ByLine Level) (w : BusWord) : ByLine Level :=
  ((f.set .dc (Level.ofBool (BusWord.isData w))).driveByte (BusWord.byte w)).set .wr .high

/-- The eleven words of a window: both address frames in orientation order, and memory write (R174, R175, R180). -/
def windowWords (c : Cfg) (r : Rect) : List BusWord :=
  (windowCommands c.orientation r).flatMap encodeCommand ++ encodeCommand .memoryWrite

/-- The payload words of a fill: each pixel the colour, low byte first (R193). -/
def fillPayload (r : Rect) (color : U16) : List BusWord :=
  r.pixels.flatMap fun _ => [dataBusWord (lo8 color), dataBusWord (hi8 color)]

/-- The payload words of a buffer transfer: the two bytes of each pixel, row-major (R192). -/
def bufferPayload (c : Cfg) (m : Memory) (r : Rect) : List BusWord :=
  r.pixels.flatMap fun p =>
    [dataBusWord (m.read (c.pixOff p.1 p.2)), dataBusWord (m.read (c.pixOff p.1 p.2 + 1))]

/-- All the words of a transfer: window, payload, display-on (R190, R195). -/
def transferWords (c : Cfg) (r : Rect) (payload : List BusWord) : List BusWord :=
  windowWords c r ++ payload ++ encodeCommand .displayOn

end Sys2Proof.Machine
end

