-- ==== Sys2Proof/Machine/Protocol.lean ====
section
/-! DEFINITION. The Panel Protocol Engine (spec/41_protocol_engine.md): the cycle primitives, the seven command frames
and the data word as bus words of their own (log 5), the delay, and the sequencer requests SEND_COMMAND, HARD_RESET and
INIT_PANEL. -/

namespace Sys2Proof.Machine

open Sys2Proof

/-! ### Cycle primitives and frames -/

/-- WRITE_COMMAND (R140). -/
def execWriteCommand (b : Byte) (s : State) : Host.Outcome State Fault Refusal := .next (runScript (emitC b) s)

/-- WRITE_DATA (R141). -/
def execWriteData (b : Byte) (s : State) : Host.Outcome State Fault Refusal := .next (runScript (emitD b) s)

/-- The frame of `Reset`, `0x01` (R143). -/
def execCmdReset (s : State) : Host.Outcome State Fault Refusal := .next (runScript (emitFrame .reset) s)

/-- The frame of `SleepOut`, `0x11` (R144). -/
def execCmdSleepOut (s : State) : Host.Outcome State Fault Refusal := .next (runScript (emitFrame .sleepOut) s)

/-- The frame of `DisplayOn`, `0x29` (R149). -/
def execCmdDisplayOn (s : State) : Host.Outcome State Fault Refusal := .next (runScript (emitFrame .displayOn) s)

/-- The frame of `SetColumnAddress`, `0x2A`; any `start` and `stop` are sent as given (R146). -/
def execCmdColumnAddressSet (start stop : U16) (s : State) : Host.Outcome State Fault Refusal :=
  .next (runScript (emitFrame (.setColumnAddress start stop)) s)

/-- The frame of `SetRowAddress`, `0x2B` (R147). -/
def execCmdRowAddressSet (start stop : U16) (s : State) : Host.Outcome State Fault Refusal :=
  .next (runScript (emitFrame (.setRowAddress start stop)) s)

/-- The command word of `MemoryWrite`, `0x2C`; the payload follows as data words (R148). -/
def execCmdMemoryWrite (s : State) : Host.Outcome State Fault Refusal := .next (runScript (emitFrame .memoryWrite) s)

/-- The frame of `SetPixelFormat`, `0x3A`; any byte is sent verbatim (R145). -/
def execCmdPixelFormat (v : Byte) (s : State) : Host.Outcome State Fault Refusal :=
  .next (runScript (emitFrame (.setPixelFormat v)) s)

/-- A data word by itself: one `D(b)` cycle (R141), which the engine emits only inside a frame (R91, R99). After a memory
write it is a payload word of the stream in progress, and one byte fewer is owed (R38, R95; log 5). DESIGN CHOICE (log 5):
as an argument it leaves `last_col` and `last_row` alone, also where it is the last argument of a `0x2A` or `0x2B` frame
whose command word was run by itself; R156 speaks of a whole frame sent by SEND_COMMAND or SET_WINDOW. -/
def execDataWord (b : Byte) (s : State) : Host.Outcome State Fault Refusal :=
  match dataPlace s.trace with
  | .payload => .next (runScript (emitD b ++ [.decPending]) s)
  | .argument => .next (runScript (emitD b) s)
  | .outside => .refused (.dataOutsideFrame b)

/-- DELAY (R153). -/
def execDelay (ms : Nat) (s : State) : Host.Outcome State Fault Refusal := .next (s.emit (.delay ms))

/-! ### SEND_COMMAND -/

/-- What SEND_COMMAND does after a frame (R150). -/
def afterCommand : Command → List SubOp
  | .reset => [.delay Config.tCmdDelayMinMs, .setPhase .configured, .setLastCol none, .setLastRow none]
  | .sleepOut => [.delay Config.tCmdDelayMinMs]
  | .setPixelFormat _ | .setColumnAddress _ _ | .setRowAddress _ _ | .memoryWrite | .displayOn => []

/-- SEND_COMMAND (R150): a memory write is refused by its form, in any phase. -/
def planSendCommand (cmd : Command) (s : State) : Plan :=
  if cmd = .memoryWrite then .refuse .memWriteWithoutWindow
  else if s.phase = .detached then .fault (faultNotAttached (.sendCommand cmd))
  else .script (emitFrame cmd ++ afterCommand cmd ++ [retStatus s (.sendCommand cmd) .ok])

/-- SEND_COMMAND (R150), taken whole. -/
def execSendCommand (cmd : Command) (s : State) : Host.Outcome State Fault Refusal :=
  presentEngine .whole (.sendCommand cmd) (planSendCommand cmd s) s

/-! ### HARD_RESET and INIT_PANEL -/

/-- The script of HARD_RESET (R151). -/
def hardResetScript : List SubOp :=
  [.setLine .rst false, .delay Config.tResetMinMs, .setLine .rst true, .delay Config.tResetMinMs,
   .setPhase .configured, .setLastCol none, .setLastRow none]

/-- HARD_RESET (R151). -/
def planHardReset (s : State) : Plan :=
  if s.phase = .detached then .fault (faultNotAttached .hardReset)
  else .script (hardResetScript ++ [retStatus s .hardReset .ok])

/-- HARD_RESET (R151), taken whole. -/
def execHardReset (s : State) : Host.Outcome State Fault Refusal :=
  presentEngine .whole .hardReset (planHardReset s) s

/-- The script of INIT_PANEL (R152). -/
def initPanelScript : List SubOp :=
  emitC 0x01#8 ++ [.delay Config.tCmdDelayMinMs]
    ++ emitC 0x11#8 ++ [.delay Config.tCmdDelayMinMs]
    ++ emitC 0x3A#8 ++ emitD Config.pixfmt565
    ++ emitC 0x29#8
    ++ [.setLastCol none, .setLastRow none, .setPhase .initialized, .setTimer true]

/-- INIT_PANEL (R152). -/
def planInitPanel (s : State) : Plan :=
  if s.phase = .detached then .fault (faultNotAttached .initPanel)
  else .script (initPanelScript ++ [retStatus s .initPanel .ok])

/-- INIT_PANEL (R152), taken whole. -/
def execInitPanel (s : State) : Host.Outcome State Fault Refusal :=
  presentEngine .whole .initPanel (planInitPanel s) s

end Sys2Proof.Machine
end

