-- ==== Sys2Proof/Machine/Streamer.lean ====
section
/-! DEFINITION. The Pixel Buffer Transfer (spec/43_pixel_streamer.md): the common stream and the three transfers. -/

namespace Sys2Proof.Machine

open Sys2Proof

/-- The two payload words of one pixel (R190): buffer bytes verbatim (R65, R192), or a colour low byte first
(R64, R193). -/
def pixelScript (c : Cfg) (src : PixelSource) (px py : Nat) : List SubOp :=
  match src with
  | .buffer =>
    emitDFrom (c.pixOff px py) ++ [.decPending] ++ emitDFrom (c.pixOff px py + 1) ++ [.decPending]
  | .color col => emitD (lo8 col) ++ [.decPending] ++ emitD (hi8 col) ++ [.decPending]

/-- The payload of a rectangle, pixel by pixel in row-major order (R191). -/
def payloadScript (c : Cfg) (r : Rect) (src : PixelSource) : List SubOp :=
  r.pixels.flatMap fun p => pixelScript c src p.1 p.2

/-- `STREAM(r, pixel)` (R190): the lock spans everything, and display-on ends it (R195). -/
def streamScript (c : Cfg) (r : Rect) (src : PixelSource) : List SubOp :=
  [.setLock .heldByTransfer] ++ setWindowScript c r ++ payloadScript c r src ++ emitC 0x29#8 ++ [.setLock .free]

/-- The phase checks of every transfer, then what it does in phase Initialized (R192 to R194). -/
def planTransfer (i : Instr) (s : State) (inside : Plan) : Plan :=
  match s.phase with
  | .detached => .fault (faultNotAttached i)
  | .configured => .fault (faultNotInitialized i)
  | .initialized => inside

/-- A transfer of a rectangle a requester gives: validated before anything else (R172), then streamed. -/
def planRectangle (i : Instr) (r : Rect) (src : PixelSource) (s : State) : Plan :=
  planTransfer i s
    (if r.validIn s.cfg then .script (streamScript s.cfg r src ++ [retStatus s i .ok])
     else .script [retStatus s i .invalidArgument])

/-- TRANSFER_REGION (R192). -/
def planTransferRegion (r : Rect) (s : State) : Plan := planRectangle (.transferRegion r) r .buffer s

/-- FILL_REGION (R193). -/
def planFillRegion (r : Rect) (color : U16) (s : State) : Plan := planRectangle (.fillRegion r color) r (.color color) s

/-- TRANSFER_FULL_FRAME (R194): no validation step. -/
def planTransferFullFrame (s : State) : Plan :=
  planTransfer .transferFullFrame s
    (.script (streamScript s.cfg s.cfg.fullPanel .buffer ++ [retStatus s .transferFullFrame .ok]))

/-- TRANSFER_REGION (R192), taken whole. -/
def execTransferRegion (r : Rect) (s : State) : Host.Outcome State Fault Refusal :=
  presentEngine .whole (.transferRegion r) (planTransferRegion r s) s

/-- FILL_REGION (R193), taken whole. -/
def execFillRegion (r : Rect) (color : U16) (s : State) : Host.Outcome State Fault Refusal :=
  presentEngine .whole (.fillRegion r color) (planFillRegion r color s) s

/-- TRANSFER_FULL_FRAME (R194), taken whole. -/
def execTransferFullFrame (s : State) : Host.Outcome State Fault Refusal :=
  presentEngine .whole .transferFullFrame (planTransferFullFrame s) s

end Sys2Proof.Machine
end

