-- ==== Sys2Proof/Machine/Surface.lean ====
section
/-! DEFINITION. The host surface boundary (spec/44_host_surface.md): ATTACH and DETACH, host byte access to the pixel
buffer, the refresh rate and the refresh tick, and the host drawing operations as what they expand to. -/

namespace Sys2Proof.Machine

open Sys2Proof

/-! ### Lifecycle -/

/-- ATTACH (R221), its outcomes in the order of R261: the form refusal, the fault, the two failures, success. -/
def planAttach (cfg : Cfg) (s : State) : Plan :=
  if !cfg.ok then .refuse .badCfg
  else if s.phase ≠ .detached then .fault (.alreadyAttached (.attach cfg) .phaseIsNotDetached)
  else if !cfg.allocOk then .script [retStatus s (.attach cfg) .initFailed]
  else if !cfg.gpioMapOk then .script [retStatus s (.attach cfg) .initFailed]
  else .script ([.allocate cfg] ++ configureScript ++ [.setPhase .configured, retStatus s (.attach cfg) .ok])

/-- ATTACH (R221), taken whole. -/
def execAttach (cfg : Cfg) (s : State) : Host.Outcome State Fault Refusal :=
  presentEngine .whole (.attach cfg) (planAttach cfg s) s

/-- DETACH (R222). -/
def planDetach (s : State) : Plan :=
  if s.phase = .detached then .fault (faultNotAttached .detach)
  else .script [.release, retStatus s .detach .ok]

/-- DETACH (R222), taken whole. -/
def execDetach (s : State) : Host.Outcome State Fault Refusal := presentEngine .whole .detach (planDetach s) s

/-! ### Host byte access -/

/-- HOST_READ (R223), at the buffer port: it does not need the lock (R74). -/
def execHostRead (off len : Nat) (s : State) : Host.Outcome State Fault Refusal :=
  let answer (st : Status) (bytes : List Byte) : Reply :=
    { agent := s.caller, op := .request (.hostRead off len), result := .read st bytes }
  if s.phase = .detached then .next (s.raise (faultNotAttached (.hostRead off len)))
  else if s.cfg.bufSize ≤ off then .next (s.reply (answer .outOfRange []))
  else match s.buffer with
    | none => .next (s.raise (.precondition (.bufferAccess off)))
    | some m =>
      .next (s.reply (answer (clampStatus off len s.cfg.bufSize)
        (m.readBytes off (clampLength off len s.cfg.bufSize))))

/-- HOST_WRITE (R224), at the buffer port: held while a transfer holds the lock (R71), else one atomic step (R73). -/
def execHostWrite (off : Nat) (bytes : List Byte) (s : State) : Host.Outcome State Fault Refusal :=
  let answer (st : Status) (count : Nat) : Reply :=
    { agent := s.caller, op := .request (.hostWrite off bytes), result := .written st count }
  if s.phase = .detached then .next (s.raise (faultNotAttached (.hostWrite off bytes)))
  else if s.cfg.bufSize ≤ off then .next (s.reply (answer .outOfRange 0))
  else if s.lock = .heldByTransfer then .next (s.holdBuffer (.hostWrite off bytes))
  else match s.buffer with
    | none => .next (s.raise (.precondition (.bufferAccess off)))
    | some m =>
      let n := clampLength off bytes.length s.cfg.bufSize
      .next ((s.setBuffer (m.writeBytes off (bytes.take n))).reply (answer (clampStatus off bytes.length s.cfg.bufSize) n))

/-! ### Refresh -/

/-- SET_REFRESH_RATE (R229). -/
def planSetRefreshRate (hz : Nat) (s : State) : Plan :=
  if s.phase = .detached then .fault (faultNotAttached (.setRefreshRate hz))
  else if rateLegal hz s.cfg then .script [.setRate hz, retStatus s (.setRefreshRate hz) .ok]
  else .script [retStatus s (.setRefreshRate hz) .invalidArgument]

/-- SET_REFRESH_RATE (R229), taken whole. -/
def execSetRefreshRate (hz : Nat) (s : State) : Host.Outcome State Fault Refusal :=
  presentEngine .whole (.setRefreshRate hz) (planSetRefreshRate hz s) s

/-- REFRESH_TICK (R230): TRANSFER_FULL_FRAME with its phase checks; the status goes to no one. -/
def planRefreshTick (s : State) : Plan :=
  planTransfer .refreshTick s (.script (streamScript s.cfg s.cfg.fullPanel .buffer ++ [.ret none]))

/-- REFRESH_TICK (R230), taken whole. -/
def execRefreshTick (s : State) : Host.Outcome State Fault Refusal :=
  presentEngine .whole .refreshTick (planRefreshTick s) s

/-! ### Host drawing operations -/

/-- The request a dirty notification maps onto (R232). -/
def dirtyRequest : Dirty → Instr
  | .rectangle r => .transferRegion r
  | .colorFill r c => .fillRegion r c
  | .generic => .transferFullFrame

/-- The rows a blit writes, then its transfer (R228). -/
def blitRequests (c : Cfg) (r : Rect) (src : List Byte) : List HostOp :=
  (List.range r.height).map (fun j =>
      .request (.hostWrite (2 * ((r.y + j) * c.width + r.x)) ((src.drop (2 * r.width * j)).take (2 * r.width))))
    ++ [.request (.transferRegion r)]

end Sys2Proof.Machine
end

