-- ==== Sys2Proof/Machine/Window.lean ====
section
/-! DEFINITION. The Addressing-Window Translator (spec/42_window_translator.md): VALIDATE and SET_WINDOW, both internal
operations (log 6). -/

namespace Sys2Proof.Machine

open Sys2Proof

/-- VALIDATE (R171): the truth value goes to the operation that asked (log 6); nothing is clamped and no event is
emitted. -/
def execValidate (r : Rect) (s : State) : Host.Outcome State Fault Refusal :=
  .next (s.reply { agent := s.caller, op := .request (.validate r), result := .validity (r.validIn s.cfg) })

/-- SET_WINDOW under the instance's orientation (R174, R175); an invalid rectangle is a precondition fault and emits
nothing (R173). -/
def execSetWindow (r : Rect) (s : State) : Host.Outcome State Fault Refusal :=
  if r.validIn s.cfg then .next (runScript (setWindowScript s.cfg r) s)
  else .next (s.raise (.precondition (.setWindowInvalid r)))

end Sys2Proof.Machine
end

