-- ==== Sys2Proof/Machine/Dispatch.lean ====
section
/-! DEFINITION. The meaning of every instruction, one arm per constructor. -/

namespace Sys2Proof.Machine

open Sys2Proof

def exec (i : Instr) (s : State) : Host.Outcome State Fault Refusal :=
  match i with
  | .cmdReset => Sys2Proof.Machine.execCmdReset s
  | .cmdSleepOut => Sys2Proof.Machine.execCmdSleepOut s
  | .cmdDisplayOn => Sys2Proof.Machine.execCmdDisplayOn s
  | .cmdColumnAddressSet start stop => Sys2Proof.Machine.execCmdColumnAddressSet start stop s
  | .cmdRowAddressSet start stop => Sys2Proof.Machine.execCmdRowAddressSet start stop s
  | .cmdMemoryWrite => Sys2Proof.Machine.execCmdMemoryWrite s
  | .cmdPixelFormat v => Sys2Proof.Machine.execCmdPixelFormat v s
  | .dataWord b => Sys2Proof.Machine.execDataWord b s
  | .attach cfg => Sys2Proof.Machine.execAttach cfg s
  | .detach => Sys2Proof.Machine.execDetach s
  | .hardReset => Sys2Proof.Machine.execHardReset s
  | .initPanel => Sys2Proof.Machine.execInitPanel s
  | .sendCommand cmd => Sys2Proof.Machine.execSendCommand cmd s
  | .transferRegion r => Sys2Proof.Machine.execTransferRegion r s
  | .fillRegion r color => Sys2Proof.Machine.execFillRegion r color s
  | .transferFullFrame => Sys2Proof.Machine.execTransferFullFrame s
  | .setRefreshRate hz => Sys2Proof.Machine.execSetRefreshRate hz s
  | .refreshTick => Sys2Proof.Machine.execRefreshTick s
  | .hostRead off len => Sys2Proof.Machine.execHostRead off len s
  | .hostWrite off bytes => Sys2Proof.Machine.execHostWrite off bytes s
  | .configureOutputs => Sys2Proof.Machine.execConfigureOutputs s
  | .setLine l v => Sys2Proof.Machine.execSetLine l v s
  | .writeParallelByte b => Sys2Proof.Machine.execWriteParallelByte b s
  | .writeCommand b => Sys2Proof.Machine.execWriteCommand b s
  | .writeData b => Sys2Proof.Machine.execWriteData b s
  | .delay ms => Sys2Proof.Machine.execDelay ms s
  | .validate r => Sys2Proof.Machine.execValidate r s
  | .setWindow r => Sys2Proof.Machine.execSetWindow r s

end Sys2Proof.Machine
end

