-- ==== Sys2Proof/Machine/Schedule.lean ====
section
/-! DEFINITION. How the agents move (spec/10_state.md R20, R36; spec/20_memory.md R70 to R79): what a host or the timer
presents, what a port holds and serves, the frame the engine is given, and what each turn of the schedule does. The
schedule is plain data, so a statement about every schedule holds for every interleaving the spec admits (log 3). -/

namespace Sys2Proof.Machine

open Sys2Proof

/-! ### The environment's fields -/

/-- The agent whose operation is run. -/
def State.setCaller (s : State) (a : Agent) : State := { s with caller := a }

/-- The operations host `k` will present. -/
def State.setHost (s : State) (k : Nat) (ops : List HostOp) : State := { s with hosts := s.hosts.set k ops }

/-- The moves to come. -/
def State.setSchedule (s : State) (ts : List Turn) : State := { s with schedule := ts }

/-- The engine port without its `n`-th request. -/
def State.unholdEngine (s : State) (n : Nat) : State := { s with enginePort := s.enginePort.eraseIdx n }

/-- The buffer port without its `n`-th operation. -/
def State.unholdBuffer (s : State) (n : Nat) : State := { s with bufferPort := s.bufferPort.eraseIdx n }

/-! ### Presenting a request -/

/-- The plan of an engine-port request; `none` for what does not go through the engine (R36). -/
def enginePlan (i : Instr) (s : State) : Option Plan :=
  match i with
  | .attach cfg => some (planAttach cfg s)
  | .detach => some (planDetach s)
  | .hardReset => some (planHardReset s)
  | .initPanel => some (planInitPanel s)
  | .sendCommand cmd => some (planSendCommand cmd s)
  | .transferRegion r => some (planTransferRegion r s)
  | .fillRegion r color => some (planFillRegion r color s)
  | .transferFullFrame => some (planTransferFullFrame s)
  | .setRefreshRate hz => some (planSetRefreshRate hz s)
  | .refreshTick => some (planRefreshTick s)
  | .hostRead _ _ | .hostWrite _ _ => none
  | .cmdReset | .cmdSleepOut | .cmdDisplayOn | .cmdColumnAddressSet _ _ | .cmdRowAddressSet _ _
  | .cmdMemoryWrite | .cmdPixelFormat _ | .dataWord _
  | .configureOutputs | .setLine _ _ | .writeParallelByte _ | .writeCommand _ | .writeData _ | .delay _
  | .validate _ | .setWindow _ => none

/-- A request issued: whole, it is `exec` (R14); stepped, an engine request is begun and its events come one at a time
(R34). -/
def issue (view : View) (i : Instr) (s : State) : Host.Outcome State Fault Refusal :=
  match view, enginePlan i s with
  | .stepped, some plan => presentEngine .stepped i plan s
  | _, _ => exec i s

/-- Whether host `k` waits for an operation: one held at a port, or the one the engine is running. A caller is blocked
until its request returns (R36, R70; log 8). -/
def State.waiting (s : State) (k : Nat) : Bool :=
  s.enginePort.any (fun h => h.agent == .host k) || s.bufferPort.any (fun h => h.agent == .host k)
    || s.script.any fun op => match op with
      | .ret (some r) => r.agent == .host k
      | _ => false

/-- HOST_BLIT (R228): the source length, then the rectangle, then its row writes and its transfer become the host's next
operations, each a step of its own. With no instance there is nothing to validate against, and it faults as the
request it maps to does (log 13). DESIGN CHOICE (log 13): a blit is no request of a port, so it is not held, and it makes
these checks at once, also while the engine is Busy; the operations it expands to are held as their own rules say. -/
def presentBlit (k : Nat) (r : Rect) (src : List Byte) (rest : List HostOp) (s : State) :
    Host.Outcome State Fault Refusal :=
  if !(HostOp.blit r src).wellFormed then .refused .blitLength
  else if s.phase = .detached then .next (s.raise (faultNotAttached (.transferRegion r)))
  else if r.validIn s.cfg then .next (s.setHost k (blitRequests s.cfg r src ++ rest))
  else .next (s.reply { agent := s.caller, op := .blit r src, result := .status .invalidArgument })

/-- One operation of host `k`, taken off its list (R226 to R228, R232); `rest` is what it will present after it. -/
def presentOp (view : View) (k : Nat) (op : HostOp) (rest : List HostOp) (s : State) :
    Host.Outcome State Fault Refusal :=
  match op with
  | .request i => if i.isHostRequest then issue view i s else .refused (.notAcceptedAtPort i)
  | .fillRect r c => issue view (.fillRegion r c) s
  | .copyRect _ _ _ => issue view .transferFullFrame s
  | .dirty d => issue view (dirtyRequest d) s
  | .blit r src => presentBlit k r src rest s

/-- An agent's move: the timer presents a tick while it is armed (R231); a host that is not waiting presents the next of
its operations. An agent with nothing to present leaves the state as it is. -/
def presentNext (agent : Agent) (view : View) (s : State) : Host.Outcome State Fault Refusal :=
  match agent with
  | .timer => if s.timerArmed then issue view .refreshTick (s.setCaller .timer) else .next s
  | .host k =>
    if s.waiting k then .next s
    else match s.hosts[k]? with
      | some (op :: rest) => presentOp view k op rest ((s.setHost k rest).setCaller (.host k))
      | some [] => .next s
      | none => .next s

/-! ### Serving what a port holds -/

/-- The `n`-th request held at the engine port, taken in when the engine is Idle (R36); in any order (R79). -/
def serveEngine (n : Nat) (view : View) (s : State) : Host.Outcome State Fault Refusal :=
  if s.engine = .busy then .next s
  else match s.enginePort[n]? with
    | some h => issue view h.request ((s.unholdEngine n).setCaller h.agent)
    | none => .next s

/-- The `n`-th operation held at the buffer port, run when the lock is free (R71); in any order (R82). -/
def serveBuffer (n : Nat) (s : State) : Host.Outcome State Fault Refusal :=
  if s.lock = .heldByTransfer then .next s
  else match s.bufferPort[n]? with
    | some h => exec h.request ((s.unholdBuffer n).setCaller h.agent)
    | none => .next s

/-! ### Turns -/

/-- The schedule after a frame's first instruction is taken from it: the words that are left stay in front. -/
def restOfFrame (ws : List BusWord) (rest : List Turn) : List Turn :=
  if ws.isEmpty then rest else .frame ws :: rest

/-- The engine is given a frame's words: it decodes one instruction and runs it (log 4). -/
def runFrame (words : List BusWord) (rest : List Turn) (s : State) : Host.Outcome State Fault Refusal :=
  match decodeFrame words with
  | .error e => .refused (.undecodable e)
  | .ok (i, ws) => exec i (s.setSchedule (restOfFrame ws rest))

/-- The engine's turn: one event of the running script; nothing while it is Idle. -/
def engineTurn (s : State) : Host.Outcome State Fault Refusal :=
  if s.engine = .busy then .next (engineMove s) else .next s

/-- The first host that is not waiting and has an operation to present. -/
def State.readyHost (s : State) : Option Nat :=
  (List.range s.hosts.length).find? fun k => !s.waiting k && match s.hosts[k]? with
    | some (_ :: _) => true
    | some [] => false
    | none => false

/-- What moves when the schedule says nothing: the running script first, then what the ports hold, then the hosts, so
that every script ends and every held request is served (R19, D22; log 3). With nothing to do the block waits at its
port (R280). -/
def defaultTurn (s : State) : Host.Outcome State Fault Refusal :=
  if s.engine = .busy then .next (engineMove s)
  else if !s.bufferPort.isEmpty && s.lock = .free then serveBuffer 0 s
  else if !s.enginePort.isEmpty then serveEngine 0 .whole s
  else match s.readyHost with
    | some k => presentNext (.host k) .whole s
    | none => .next s

/-- One turn. A frame waits while the engine is Busy, since the events of one request are never interleaved with
others (R70, R290): the engine moves instead. -/
def takeTurn (t : Turn) (rest : List Turn) (s : State) : Host.Outcome State Fault Refusal :=
  match t with
  | .frame words => if s.engine = .busy then .next (engineMove s) else runFrame words rest s
  | .present agent view => presentNext agent view (s.setSchedule rest)
  | .engine => engineTurn (s.setSchedule rest)
  | .serveEngine n view => serveEngine n view (s.setSchedule rest)
  | .serveBuffer n => serveBuffer n (s.setSchedule rest)

/-- One move of the machine. After a fault no agent steps (R259). -/
def move (s : State) : Host.Outcome State Fault Refusal :=
  match s.fault with
  | some f => .fault f
  | none =>
    match s.schedule with
    | [] => defaultTurn s
    | t :: rest => takeTurn t rest s

/-- The state in which the words can be emitted: a data word at their head needs a frame with a place for it, so where
there is none the trace is given the memory-write word that opens one (log 4). -/
def State.openFrameFor (s : State) : List BusWord → State
  | [] => s
  | w :: _ =>
    if BusWord.isData w ∧ dataPlace s.trace = .outside then
      { s with trace := s.trace ++ wordEvents (commandWord 0x2C#8) }
    else s

/-- The frame a table word stands for, put where the next step takes its instruction from (log 4). -/
def State.giveFrame (s : State) (words : List BusWord) : State :=
  (s.openFrameFor words).setSchedule (.frame words :: s.schedule)

end Sys2Proof.Machine
end

