-- ==== Sys2Proof/Machine/Step.lean ====
section
/-! DEFINITION. The one step of the machine, and where a table word is put so that the next step runs it. -/

namespace Sys2Proof.Machine

open Sys2Proof

/-- One step: a next state, a fault (only from a state that holds one, R259), or a refusal (R260). -/
def step : State → Host.Outcome State Fault Refusal := fun s => move s

/-- The state with the table word `w` as the frame the engine is given next; nothing else changes, but for a data word the
memory-write word whose frame it stands in (log 4). -/
def State.withFetchWord (s : State) (nbits w : Nat) : State := s.giveFrame (layoutWords nbits w)

end Sys2Proof.Machine
end

