-- ==== Sys2Proof/Safety.lean ====
section
/-! DEFINITION. What a safe run is, in the terms statements use: a state ready for a request, a finished run
(spec/70_reset_and_hazards.md R297), a state at rest between requests, and the invariant every step keeps. -/

namespace Sys2Proof.Machine

open Sys2Proof

/-- No fault, and the engine port accepts (R36, R259). -/
abbrev State.ready (s : State) : Prop := s.fault = none ∧ s.engine = .idle

/-- Every line is configured as an output (R120). -/
abbrev State.linesUp (s : State) : Prop := s.mode = ByLine.const .output

/-- A run is finished: the engine is Idle, no host operation is held, no fault (R297). DESIGN CHOICE (log 27): a
REFRESH_TICK of the timer held at the engine port keeps the run unfinished too. -/
def State.finished (s : State) : Bool :=
  s.engine == .idle && s.enginePort.isEmpty && s.bufferPort.isEmpty && s.fault.isNone

/-- The buffer is in canonical form and lies within its size (R32, R225). -/
def State.bufferOk (s : State) : Bool :=
  match s.buffer with
  | none => true
  | some m => m.wf && m.within s.cfg.bufSize

/-- With no instance: lines forgotten, no buffer, timer off (R43, R44). -/
def State.detachedRest (s : State) : Bool :=
  s.mode == ByLine.const .unset && s.level == ByLine.const .undriven && s.buffer.isNone && !s.timerArmed

/-- With an instance: every line an output and driven, CS low and RD high (R128), WR and RST high between cycles, a
buffer, a legal configuration (R9) and a legal rate (R30). -/
def State.attachedRest (s : State) : Bool :=
  s.mode == ByLine.const .output && Line.all.all (fun l => s.level.get l != .undriven)
    && s.level.cs == .low && s.level.rd == .high && s.level.wr == .high && s.level.rst == .high
    && s.buffer.isSome && s.cfg.ok && rateLegal s.refreshHz s.cfg

/-- Between requests: the engine Idle, the lock free and no payload owed (R297), and what the phase asks for; in phase
Initialized the timer is armed (R231). -/
def State.atRest (s : State) : Bool :=
  s.engine == .idle && s.lock == .free && s.streamPending == 0
    && match s.phase with
      | .detached => s.detachedRest
      | .configured => s.attachedRest
      | .initialized => s.attachedRest && s.timerArmed

/-- The sub-step that returns. -/
def SubOp.isReturn : SubOp → Bool
  | .ret _ => true
  | .setMode _ | .setLine _ _ | .bus _ | .busPixel _ | .delay _ | .allocate _ | .release | .setPhase _ | .setTimer _
  | .setRate _ | .setLock _ | .setLastCol _ | .setLastRow _ | .setPending _ | .decPending => false

/-- A script returns at its end and only there (R34, R197). -/
def endsInReturn : List SubOp → Bool
  | [] => false
  | [op] => op.isReturn
  | op :: op' :: ops => !op.isReturn && endsInReturn (op' :: ops)

/-- In the middle of a request: the script returns at its end and only there, and what it leaves is a state at rest
without a fault (R197: it runs to its end). -/
def State.midway (s : State) : Bool :=
  endsInReturn s.script && (runScript s.script s).fault.isNone && (runScript s.script s).atRest

/-- What the ports hold: engine requests at the one, HOST_WRITEs at the other (R36, R71). -/
def State.portsOk (s : State) : Bool :=
  s.enginePort.all (fun h => h.request.isEngineRequest) && s.bufferPort.all fun h => h.request.isHostWrite

/-- The invariant every step keeps. A state with a fault is never final and says nothing (R259). -/
def State.inv (s : State) : Bool :=
  s.fault.isSome
    || (s.bufferOk && s.portsOk && match s.engine with
      | .idle => s.script.isEmpty && s.atRest
      | .busy => s.midway)

/-! ### The words statements use -/

/-- The bus write cycles of a word list: their events appended, and the levels the last of them leaves (R142). -/
def State.sends (s : State) (ws : List BusWord) : State :=
  { s with level := ws.foldl levelsAfterWord s.level, trace := s.trace ++ wordsEvents ws }

/-- A status returned to the agent whose request is being run (R251). -/
def State.answered (s : State) (i : Instr) (st : Status) : State :=
  s.reply { agent := s.caller, op := .request i, result := .status st }

/-- The data word of a byte given as a number (R90). -/
def dataWordOf (n : Nat) : BusWord := BitVec.ofNat 9 (256 + n)

/-- The two data words of a window bound given as a number, high byte first (R63, R93). -/
def boundWords (n : Nat) : List BusWord := [dataWordOf (n / 256), dataWordOf (n % 256)]

/-- The arguments of the last `0x2A` frame of a window (R174, R175). -/
def columnBounds (c : Cfg) (r : Rect) : U16 × U16 :=
  match c.orientation with
  | .landscape => r.xRange
  | .portrait => r.yRange

/-- The arguments of the last `0x2B` frame of a window (R174, R175). -/
def rowBounds (c : Cfg) (r : Rect) : U16 × U16 :=
  match c.orientation with
  | .landscape => r.yRange
  | .portrait => r.xRange

/-- A successful transfer of a rectangle with a payload: its cycles, the window it leaves in the ghost fields, nothing
owed, the lock free again (R190). -/
def State.transferred (s : State) (r : Rect) (payload : List BusWord) : State :=
  { s.sends (transferWords s.cfg r payload) with
    lastCol := some (columnBounds s.cfg r)
    lastRow := some (rowBounds s.cfg r)
    streamPending := 0
    lock := .free }

/-- Whether every data word of an instruction list stands in a memory-write frame, given whether the list begins in one
(R99, R102). -/
def framed : Bool → List Instr → Bool
  | _, [] => true
  | inPayload, .dataWord _ :: is => inPayload && framed inPayload is
  | _, .cmdMemoryWrite :: is => framed true is
  | _, _ :: is => framed false is

/-- The requests among a host's operations. -/
def requestsOf : List HostOp → List Instr
  | [] => []
  | .request i :: ops => i :: requestsOf ops
  | _ :: ops => requestsOf ops

/-- Requests taken one after the other, each run whole; it ends at the first that does not answer a next state. -/
def execInOrder : List Instr → State → Host.Outcome State Fault Refusal
  | [], s => .next s
  | i :: is, s =>
    match exec i s with
    | .next t => execInOrder is t
    | .fault f => .fault f
    | .refused r => .refused r

/-- The buffer after a blit's row writes, made one after the other (R228). -/
def blitBuffer (c : Cfg) (r : Rect) (src : List Byte) (m : Memory) : Memory :=
  (List.range r.height).foldl
    (fun m j => m.writeBytes (2 * ((r.y + j) * c.width + r.x)) ((src.drop (2 * r.width * j)).take (2 * r.width))) m

end Sys2Proof.Machine
end

