-- ==== Sys2Proof/Certificates/Slice0/Obligations.lean ====
section
/-! DEFINITION. The statements for the provers. Every state field that a statement does not name in its next state is
unchanged, because the next state is written as an update of the state before. -/

open Sys2Proof Sys2Proof.Machine

/-! ### Encoding (spec/30_encoding.md) -/

/-- Words written out from the table of R92 and the bus word of R90 decode to the instruction they stand for: one of each
row, arguments high byte first, the words after a frame left over. -/
def Obligations.WordsFromTheTableDecode : Prop :=
  decodeFrame [0x001#9] = .ok (.cmdReset, []) ∧ decodeFrame [0x011#9] = .ok (.cmdSleepOut, [])
  ∧ decodeFrame [0x029#9] = .ok (.cmdDisplayOn, []) ∧ decodeFrame [0x02C#9, 0x1A0#9] = .ok (.cmdMemoryWrite, [0x1A0#9])
  ∧ decodeFrame [0x02A#9, 0x101#9, 0x100#9, 0x1FF#9, 0x1F0#9] = .ok (.cmdColumnAddressSet 0x0100#16 0xFFF0#16, [])
  ∧ decodeFrame [0x02B#9, 0x101#9, 0x12C#9, 0x101#9, 0x190#9, 0x029#9] = .ok (.cmdRowAddressSet 300#16 400#16, [0x029#9])
  ∧ decodeFrame [0x03A#9, 0x155#9] = .ok (.cmdPixelFormat 0x55#8, [])
  ∧ decodeFrame [0x1F8#9] = .ok (.dataWord 0xF8#8, [])

/-- Decode and encode agree: the words of any bus-word instruction, whatever follows them, decode to it and leave what
follows (R92, R96, R102). -/
def Obligations.DecodeOfEncodeIsTheInstruction : Prop :=
  ∀ (i : Instr) (ws rest : List BusWord), encode i = some ws → decodeFrame (ws ++ rest) = .ok (i, rest)

/-- Each word list has one meaning: whatever decodes is the encoding of what it decodes to, then the rest (R92, R99). -/
def Obligations.DecodedWordsAreTheEncoding : Prop :=
  ∀ (i : Instr) (ws rest : List BusWord), decodeFrame ws = .ok (i, rest) → ∃ fw, encode i = some fw ∧ ws = fw ++ rest

/-- A whole stream of frames decodes back to the frames, each ending where the next begins, exactly if every data word in
it stands in a memory-write frame; a data word with no such frame is refused (R99, R102). -/
def Obligations.FrameStreamDecodesBack : Prop :=
  ∀ (inPayload : Bool) (is : List Instr) (wss : List (List BusWord)), is.map encode = wss.map some →
    (framed inPayload is = true → decodeStream wss.flatten.length inPayload wss.flatten = .ok is)
    ∧ (framed inPayload is = false →
      ∃ b, decodeStream wss.flatten.length inPayload wss.flatten = .error (.dataOutsideFrame b))

/-- A command word outside the seven opcodes is refused by name, whatever follows it (R99, R100). -/
def Obligations.ReservedOpcodesAreRefused : Prop :=
  ∀ (b : Byte) (ws : List BusWord), b ∉ [0x01#8, 0x11#8, 0x29#8, 0x2A#8, 0x2B#8, 0x2C#8, 0x3A#8] →
    decodeFrame (commandWord b :: ws) = .error (.reservedOpcode b)

/-- The encoder's words for every command, as numbers: opcode with DC = 0, arguments with DC = 1 and big-endian
(R93, R94, R96). That DC is bit 8 of a word is the spec's own notation (R90, D1). -/
def Obligations.EncoderGivesTheWireWords : Prop :=
  ∀ (v : Byte) (s e : U16),
    encodeCommand .reset = [0x001#9] ∧ encodeCommand .sleepOut = [0x011#9] ∧ encodeCommand .displayOn = [0x029#9]
    ∧ encodeCommand .memoryWrite = [0x02C#9]
    ∧ encodeCommand (.setPixelFormat v) = [0x03A#9, dataWordOf v.toNat]
    ∧ encodeCommand (.setColumnAddress s e) = 0x02A#9 :: (boundWords s.toNat ++ boundWords e.toNat)
    ∧ encodeCommand (.setRowAddress s e) = 0x02B#9 :: (boundWords s.toNat ++ boundWords e.toNat)

/-! ### Reset and the invariant (spec/10_state.md, spec/70_reset_and_hazards.md) -/

/-- The initial state before any request, in the fields to which R43 gives a value; with nothing presented the block waits
at its port (R280; that the schedule and the hosts are empty at reset is the model's choice, log 3). -/
def Obligations.ResetIsTheInitialState : Prop :=
  State.reset.mode = ByLine.const .unset ∧ State.reset.level = ByLine.const .undriven ∧ State.reset.phase = .detached
  ∧ State.reset.timerArmed = false ∧ State.reset.buffer = none ∧ State.reset.lock = .free ∧ State.reset.engine = .idle
  ∧ State.reset.lastCol = none ∧ State.reset.lastRow = none ∧ State.reset.streamPending = 0 ∧ State.reset.trace = []
  ∧ State.reset.fault = none ∧ step State.reset = .next State.reset

/-- The invariant holds of the initial state. -/
def Obligations.ResetMeetsTheInvariant : Prop := State.reset.inv = true

/-- Every step of every agent keeps the invariant: canonical and bounded buffer, ports holding only what they hold, and
either a state at rest (lock free, no payload owed, CS low and RD high, WR and RST high, a legal configuration and rate,
the timer armed once initialized) or a script on its way to one (R28 to R33, R36, R128, R196, R197, R297). -/
def Obligations.EveryStepKeepsTheInvariant : Prop :=
  ∀ s t : State, s.inv = true → step s = .next t → t.inv = true

/-- Nothing removes an event: whatever steps, the trace before is a prefix of the trace after (R40). -/
def Obligations.EveryStepOnlyAppendsToTheTrace : Prop :=
  ∀ s t : State, step s = .next t → s.trace <+: t.trace

/-! ### How the machine steps (log 3, 4, 7: the schedule and the frame slot are the model's) -/

/-- A step runs the decoded instruction: where the engine is given a frame and is Idle, the step is `exec` of the
instruction the frame's words decode to, with the words it took removed from the schedule. -/
def Obligations.StepRunsTheDecodedFrame : Prop :=
  ∀ (s : State) (words ws : List BusWord) (rest : List Turn) (i : Instr), s.ready →
    s.schedule = .frame words :: rest → decodeFrame words = .ok (i, ws) →
    step s = exec i { s with schedule := restOfFrame ws rest }

/-- A step runs the presented request, in either view: where it is the turn of a host that is not waiting, its next request
is issued with the turn and the request removed and the host as the caller. In the whole view that is `exec` of the
request; so it is in the stepped view for a request that does not go through the engine, and an engine request is there
begun, to be run event by event. A request the port does not accept is refused (R34, R36, R98). -/
def Obligations.StepRunsThePresentedRequest : Prop :=
  ∀ (s : State) (k : Nat) (view : View) (rest : List Turn) (i : Instr) (ops : List HostOp), s.fault = none →
    s.schedule = .present (.host k) view :: rest → s.waiting k = false → s.hosts[k]? = some (.request i :: ops) →
    (i.isHostRequest = true →
      step s = issue view i { s with schedule := rest, hosts := s.hosts.set k ops, caller := .host k }
      ∧ (view = .whole ∨ i.isEngineRequest = false →
        step s = exec i { s with schedule := rest, hosts := s.hosts.set k ops, caller := .host k }))
    ∧ (i.isHostRequest = false → step s = .refused (.notAcceptedAtPort i))

/-- The timer's turn, in either view: armed, REFRESH_TICK is issued, which in the whole view is `exec` of it; not armed,
nothing is presented (R230, R231). -/
def Obligations.TimerTicksOnlyWhileArmed : Prop :=
  ∀ (s : State) (view : View) (rest : List Turn), s.fault = none → s.schedule = .present .timer view :: rest →
    (s.timerArmed = true → step s = issue view .refreshTick { s with schedule := rest, caller := .timer }
      ∧ (view = .whole → step s = exec .refreshTick { s with schedule := rest, caller := .timer }))
    ∧ (s.timerArmed = false → step s = .next { s with schedule := rest })

/-- After a fault no agent steps, and nothing clears it: the step answers the fault (R41, R259). -/
def Obligations.NoAgentStepsAfterAFault : Prop :=
  ∀ (s : State) (f : Fault), s.fault = some f → step s = .fault f

/-- A host's turn with a drawing operation issues the request it maps onto, in either view: a fill FILL_REGION, a copy and
generic damage TRANSFER_FULL_FRAME whatever the operands, a dirty rectangle TRANSFER_REGION, a dirty colour FILL_REGION
(R226, R227, R232). -/
def Obligations.DrawingOperationsMapOntoRequests : Prop :=
  ∀ (s : State) (k : Nat) (view : View) (rest : List Turn) (ops : List HostOp) (op : HostOp) (i : Instr) (r source : Rect)
    (c : U16) (x y : Nat), s.fault = none → s.schedule = .present (.host k) view :: rest → s.waiting k = false →
    s.hosts[k]? = some (op :: ops) →
    (op, i) ∈ [(HostOp.fillRect r c, Instr.fillRegion r c), (.copyRect source x y, .transferFullFrame),
      (.dirty (.rectangle r), .transferRegion r), (.dirty (.colorFill r c), .fillRegion r c),
      (.dirty .generic, .transferFullFrame)] →
    step s = issue view i { s with schedule := rest, hosts := s.hosts.set k ops, caller := .host k }
    ∧ (view = .whole → step s = exec i { s with schedule := rest, hosts := s.hosts.set k ops, caller := .host k })

/-- The sub-step view refines the atomic one: a request taken by an idle engine and run event by event, with nobody else
moving in between, ends in the very state that running it whole gives (R14, R34, R70; log 7). -/
def Obligations.EventByEventRunEndsAsTheWholeRun : Prop :=
  ∀ (i : Instr) (s b t : State), s.ready → s.script = [] → issue .stepped i s = .next b → exec i s = .next t →
    t.fault = none → ∃ n, engineMoves n b = t

/-- The engine moves at its own turn, and of itself when the schedule is empty. A move that stands before an event emits
exactly that one event (R34); one that stands after the script's last event, at the end of a delay, emits none and ends
the script (R153; that the end of a last delay is a move of its own is the model's reading, log 7). That a Busy engine moves of
itself when the schedule is empty is the model's default order, where R79 leaves the order free (log 3). -/
def Obligations.EngineMoveEmitsOneEvent : Prop :=
  ∀ s : State, s.fault = none →
    (s.engine = .busy → s.schedule = [] → step s = .next (engineMove s))
    ∧ (∀ rest, s.engine = .busy → s.schedule = .engine :: rest →
        step s = .next (engineMove { s with schedule := rest }))
    ∧ (s.script.any SubOp.isEvent = true → (engineMove s).fault = none →
        ∃ e, (engineMove s).trace = s.trace ++ [e])
    ∧ (s.script.any SubOp.isEvent = false → (engineMove s).trace = s.trace ∧ (engineMove s).script = [])

/-- An engine request presented while the engine is Busy is held: it joins the engine port's queue with its caller, and
nothing else changes; a form refusal comes first (R36, R103; that it does so while Busy is the model's reading, log
17). A held request is run once the engine is Idle and not before: at a turn that serves it, and of itself when the
schedule is empty and the buffer port holds nothing, it leaves the queue and is issued with its own agent as the
caller. That any held request may be served next is the order R79 leaves free; the order with an empty schedule is the
model's (log 3). -/
def Obligations.BusyEngineHoldsRequests : Prop :=
  (∀ (i : Instr) (s : State), s.engine = .busy → i.isEngineRequest = true → i.wellFormed = true →
    exec i s = .next { s with enginePort := s.enginePort ++ [{ agent := s.caller, request := i }] })
  ∧ (∀ (s : State) (n : Nat) (view : View) (rest : List Turn) (h : Held), s.fault = none →
    s.schedule = .serveEngine n view :: rest → s.enginePort[n]? = some h →
    (s.engine = .busy → step s = .next { s with schedule := rest })
    ∧ (s.engine = .idle → step s = issue view h.request
        { s with schedule := rest, enginePort := s.enginePort.eraseIdx n, caller := h.agent })
    ∧ (s.engine = .idle → view = .whole → step s = exec h.request
        { s with schedule := rest, enginePort := s.enginePort.eraseIdx n, caller := h.agent }))
  ∧ (∀ (s : State) (h : Held) (held : List Held), s.ready → s.schedule = [] → s.bufferPort = [] →
    s.enginePort = h :: held → step s = exec h.request { s with enginePort := held, caller := h.agent })

/-- While a transfer holds the lock, a HOST_WRITE inside the buffer is held: it joins the buffer port's queue and no byte
changes (R71). A held HOST_WRITE is run once the lock is free and not before: at a turn that serves it, and of itself when
the schedule is empty, it leaves the queue and runs with its own agent as the caller. That any held operation may be
served next is R82's; the order with an empty schedule is the model's (log 3), and so is that the operation makes its
checks when it runs (log 9). -/
def Obligations.LockHoldsHostWrites : Prop :=
  (∀ (off : Nat) (bytes : List Byte) (s : State), s.phase ≠ .detached → off < s.cfg.bufSize → s.lock = .heldByTransfer →
    exec (.hostWrite off bytes) s =
      .next { s with bufferPort := s.bufferPort ++ [{ agent := s.caller, request := .hostWrite off bytes }] })
  ∧ (∀ (s : State) (n : Nat) (rest : List Turn) (h : Held), s.fault = none → s.schedule = .serveBuffer n :: rest →
    s.bufferPort[n]? = some h →
    (s.lock = .heldByTransfer → step s = .next { s with schedule := rest })
    ∧ (s.lock = .free → step s = exec h.request
        { s with schedule := rest, bufferPort := s.bufferPort.eraseIdx n, caller := h.agent }))
  ∧ (∀ (s : State) (h : Held) (held : List Held), s.ready → s.schedule = [] → s.lock = .free →
    s.bufferPort = h :: held → step s = exec h.request { s with bufferPort := held, caller := h.agent })

/-- While a transfer is under way no step of anyone changes the buffer, so a transfer streams the buffer as it was when
it took the lock (R71, R72). The premise on the script says only that the engine is in a transfer and not in an ATTACH
or a DETACH, which never hold the lock. -/
def Obligations.BufferIsFrozenDuringATransfer : Prop :=
  ∀ s t : State, s.engine = .busy → s.lock = .heldByTransfer →
    (∀ op ∈ s.script, op ≠ .release ∧ ∀ c, op ≠ .allocate c) → step s = .next t → t.buffer = s.buffer

/-! ### Bus Line Controller (spec/40_bus_lines.md) -/

/-- CONFIGURE_OUTPUTS sets every line to output at its idle level, in 26 events. That the lines go in this order, mode
before level, is the spec's own choice (R120, D5). -/
def Obligations.ConfigureOutputsDrivesTheIdleLevels : Prop :=
  ∀ s : State, s.fault = none → exec .configureOutputs s = .next { s with
    mode := ByLine.const .output
    level := { d0 := .low, d1 := .low, d2 := .low, d3 := .low, d4 := .low, d5 := .low, d6 := .low, d7 := .low,
               dc := .high, cs := .low, rd := .high, wr := .high, rst := .high }
    trace := s.trace ++
      [.mode .d0, .level .d0 false, .mode .d1, .level .d1 false, .mode .d2, .level .d2 false,
       .mode .d3, .level .d3 false, .mode .d4, .level .d4 false, .mode .d5, .level .d5 false,
       .mode .d6, .level .d6 false, .mode .d7, .level .d7 false, .mode .dc, .level .dc true,
       .mode .cs, .level .cs false, .mode .rd, .level .rd true, .mode .wr, .level .wr true,
       .mode .rst, .level .rst true] }

/-- SET_LINE: on a configured line it sets that line's level, leaves the others, and appends one event, also when the
level was the same; on an unset line it raises the precondition fault and emits nothing (R122). -/
def Obligations.SetLineDrivesOneLine : Prop :=
  ∀ (l : Line) (v : Bool) (s : State),
    (s.mode.get l = .output → exec (.setLine l v) s = .next
        { s with level := s.level.set l (if v then .high else .low), trace := s.trace ++ [.level l v] }
      ∧ ∀ l', (s.level.set l (if v then Level.high else .low)).get l'
          = if l' = l then (if v then .high else .low) else s.level.get l')
    ∧ (s.mode.get l = .unset →
        exec (.setLine l v) s = .next { s with fault := some (.precondition (.setLineUnset l)) })

/-- WRITE_PARALLEL_BYTE: one event; bit `i` stands on line `Di`, the control lines are as before, and `databus` reads the
byte back. That bit `i` goes to line `Di` is the spec's own choice (R123, R124, D4). -/
def Obligations.ParallelByteDrivesTheDataLines : Prop :=
  ∀ (b : Byte) (s : State), s.linesUp → exec (.writeParallelByte b) s = .next
      { s with level := s.level.driveByte b, trace := s.trace ++ [.byte b] }
    ∧ (s.level.driveByte b).databus = some b
    ∧ (∀ p ∈ [(Line.d0, 0), (.d1, 1), (.d2, 2), (.d3, 3), (.d4, 4), (.d5, 5), (.d6, 6), (.d7, 7)],
        (s.level.driveByte b).get p.1 = if b.getLsbD p.2 then .high else .low)
    ∧ (∀ l ∈ [Line.dc, .cs, .rd, .wr, .rst], (s.level.driveByte b).get l = s.level.get l)

/-- WRITE_PARALLEL_BYTE before CONFIGURE_OUTPUTS raises the precondition fault and emits nothing (R123). -/
def Obligations.ParallelByteNeedsOutputs : Prop :=
  ∀ (b : Byte) (s : State) (l : Line), l ∈ [Line.d0, .d1, .d2, .d3, .d4, .d5, .d6, .d7] → s.mode.get l = .unset →
    exec (.writeParallelByte b) s = .next { s with fault := some (.precondition .busUnset) }

/-- The observable projection, after any trace: the events of a word list add exactly those words, in order; a level of
RST adds `RST=v`, a delay adds itself; a mode, a byte on the bus, WR falling and a level of any other line add nothing
(R127). -/
def Obligations.ProjectionReadsTheWordsBack : Prop :=
  ∀ (tr : List Event) (ws : List BusWord) (v : Bool) (ms : Nat) (l : Line) (b : Byte),
    obs (tr ++ wordsEvents ws) = obs tr ++ ws.map Obs.word
    ∧ obs (tr ++ [.level .rst v]) = obs tr ++ [.rst v]
    ∧ obs (tr ++ [.delay ms]) = obs tr ++ [.delay ms]
    ∧ obs (tr ++ [.mode l]) = obs tr ∧ obs (tr ++ [.byte b]) = obs tr ∧ obs (tr ++ [.level .wr false]) = obs tr
    ∧ (l ≠ .rst → l ≠ .wr → obs (tr ++ [.level l v]) = obs tr)

/-! ### Panel Protocol Engine (spec/41_protocol_engine.md) -/

/-- WRITE_COMMAND and WRITE_DATA: four events, DC low for a command and high for data, which are exactly one bus write
cycle of the projection, and the levels they leave, DC, the data lines and WR (R140, R141). -/
def Obligations.CyclePrimitivesEmitOneCycle : Prop :=
  ∀ (b : Byte) (s : State), s.fault = none → s.linesUp →
    exec (.writeCommand b) s = .next { s with
      level := { s.level.driveByte b with dc := .low, wr := .high }
      trace := s.trace ++ [.level .dc false, .byte b, .level .wr false, .level .wr true] }
    ∧ obs (s.trace ++ [.level .dc false, .byte b, .level .wr false, .level .wr true])
        = obs s.trace ++ [.word (commandWord b)]
    ∧ exec (.writeData b) s = .next { s with
      level := { s.level.driveByte b with dc := .high, wr := .high }
      trace := s.trace ++ [.level .dc true, .byte b, .level .wr false, .level .wr true] }
    ∧ obs (s.trace ++ [.level .dc true, .byte b, .level .wr false, .level .wr true])
        = obs s.trace ++ [.word (dataBusWord b)]

/-- EMIT_FRAME: the words of the frame's encoding, each as one cycle of four events, in list order; a frame of `k` words
appends `4k` events (R142). -/
def Obligations.FramesEmitTheirEncoding : Prop :=
  ∀ (cmd : Command) (s : State), s.fault = none → s.linesUp →
    (runScript (emitFrame cmd) s).fault = none
    ∧ (runScript (emitFrame cmd) s).trace = s.trace ++ (encodeCommand cmd).flatMap (fun w =>
        [.level .dc (BusWord.isData w), .byte (BusWord.byte w), .level .wr false, .level .wr true])
    ∧ (runScript (emitFrame cmd) s).trace.length = s.trace.length + 4 * (encodeCommand cmd).length

/-- The frames without a ghost effect emit their words and change nothing but levels and trace (R143, R144, R145, R148,
R149). -/
def Obligations.PlainFramesEmitTheirWords : Prop :=
  ∀ (v : Byte) (s : State), s.fault = none → s.linesUp →
    exec .cmdReset s = .next (s.sends [0x001#9]) ∧ exec .cmdSleepOut s = .next (s.sends [0x011#9])
    ∧ exec .cmdDisplayOn s = .next (s.sends [0x029#9]) ∧ exec .cmdMemoryWrite s = .next (s.sends [0x02C#9])
    ∧ exec (.cmdPixelFormat v) s = .next (s.sends [0x03A#9, dataWordOf v.toNat])

/-- The address frames send both bounds big-endian, in any order of size, and set the ghost field of their command to
them (R146, R147, R156). -/
def Obligations.AddressFramesSendBothBounds : Prop :=
  ∀ (a e : U16) (s : State), s.fault = none → s.linesUp →
    exec (.cmdColumnAddressSet a e) s = .next
      { s.sends (0x02A#9 :: (boundWords a.toNat ++ boundWords e.toNat)) with lastCol := some (a, e) }
    ∧ exec (.cmdRowAddressSet a e) s = .next
      { s.sends (0x02B#9 :: (boundWords a.toNat ++ boundWords e.toNat)) with lastRow := some (a, e) }

/-- A data word by itself, by the nearest preceding command word of the trace, `opcode`, and the data words `ds` after
it (R91, R99): after a memory write it is one data cycle and one payload byte fewer to come; where the frame has an
argument left to come (R92) it is one data cycle; elsewhere, and before any command word, it is no word of this block and
refused. That a data word run by itself counts as payload, and that as an argument it leaves `last_col` and
`last_row` alone, is the model's choice (log 5; R38, R141, R156). -/
def Obligations.DataWordIsOnePayloadByte : Prop :=
  ∀ (b opcode : Byte) (before ds : List BusWord) (s : State), (∀ d ∈ ds, BusWord.isData d = true) →
    (busWords s.trace = before ++ commandWord opcode :: ds → s.fault = none → s.linesUp →
      (opcode = 0x2C#8 → exec (.dataWord b) s = .next
        { s.sends [dataWordOf b.toNat] with streamPending := s.streamPending - 1 })
      ∧ (opcode ≠ 0x2C#8 → ds.length < argumentCount opcode →
        exec (.dataWord b) s = .next (s.sends [dataWordOf b.toNat])))
    ∧ (busWords s.trace = before ++ commandWord opcode :: ds → opcode ≠ 0x2C#8 → argumentCount opcode ≤ ds.length →
      exec (.dataWord b) s = .refused (.dataOutsideFrame b))
    ∧ (busWords s.trace = ds → exec (.dataWord b) s = .refused (.dataOutsideFrame b))

/-- DELAY appends its lower bound and changes nothing else. In a script, the move that emits a delay does nothing but that:
the engine stays Busy and what follows the delay waits, also where the delay is the script's last event (R153; that the
rest waits for the next move is the model's reading of how the delay ends, log 7). -/
def Obligations.DelayIsOneEvent : Prop :=
  ∀ (ms : Nat) (s : State), exec (.delay ms) s = .next { s with trace := s.trace ++ [.delay ms] }
    ∧ ∀ ops, s.script = .delay ms :: ops →
      engineMove s = { s with trace := s.trace ++ [.delay ms], script := ops }

/-- HARD_RESET: with no instance a fault and no event; else RST low, at least 120 ms, RST high, at least 120 ms, the phase
back to Configured and the window forgotten, `OK` returned; no other line, not the timer, not the buffer (R151). -/
def Obligations.HardResetPulsesTheResetLine : Prop :=
  ∀ s : State, s.ready →
    (s.phase = .detached →
      exec .hardReset s = .next { s with fault := some (.notAttached .hardReset .phaseIsDetached) })
    ∧ (s.phase ≠ .detached → s.linesUp → exec .hardReset s = .next (State.answered { s with
        level := { s.level with rst := .high }
        trace := s.trace ++ [.level .rst false, .delay 120, .level .rst true, .delay 120]
        phase := .configured
        lastCol := none
        lastRow := none } .hardReset .ok))

/-- INIT_PANEL: with no instance a fault and no event; else the five cycles and the two delays in their order, phase
Initialized, the timer armed, the window forgotten, `OK` returned; admitted in Configured and Initialized alike (R152). -/
def Obligations.InitPanelRunsTheSequence : Prop :=
  ∀ s : State, s.ready →
    (s.phase = .detached →
      exec .initPanel s = .next { s with fault := some (.notAttached .initPanel .phaseIsDetached) })
    ∧ (s.phase ≠ .detached → s.linesUp → exec .initPanel s = .next (State.answered { s with
        level := levelsAfterWord s.level 0x029#9
        trace := s.trace ++ (wordsEvents [0x001#9] ++ [.delay 120] ++ wordsEvents [0x011#9] ++ [.delay 120]
          ++ wordsEvents [0x03A#9, 0x155#9, 0x029#9])
        phase := .initialized
        timerArmed := true
        lastCol := none
        lastRow := none } .initPanel .ok))

/-- SEND_COMMAND in an attached instance: the frame, the trailing delay of Reset and SleepOut, the phase and ghost effects
of Reset and of the window commands, `OK` (R150; that it is a port request and that the delays are part of it are the
spec's own choices, D2, D12). -/
def Obligations.SendCommandSendsOneFrame : Prop :=
  ∀ (v : Byte) (a e : U16) (s : State), s.ready → s.linesUp → s.phase ≠ .detached →
    exec (.sendCommand .reset) s = .next (State.answered { s.sends [0x001#9] with
        trace := s.trace ++ (wordsEvents [0x001#9] ++ [.delay 120])
        phase := .configured
        lastCol := none
        lastRow := none } (.sendCommand .reset) .ok)
    ∧ exec (.sendCommand .sleepOut) s = .next (State.answered { s.sends [0x011#9] with
        trace := s.trace ++ (wordsEvents [0x011#9] ++ [.delay 120]) } (.sendCommand .sleepOut) .ok)
    ∧ exec (.sendCommand .displayOn) s = .next ((s.sends [0x029#9]).answered (.sendCommand .displayOn) .ok)
    ∧ exec (.sendCommand (.setPixelFormat v)) s = .next
        ((s.sends [0x03A#9, dataWordOf v.toNat]).answered (.sendCommand (.setPixelFormat v)) .ok)
    ∧ exec (.sendCommand (.setColumnAddress a e)) s = .next (State.answered
        { s.sends (0x02A#9 :: (boundWords a.toNat ++ boundWords e.toNat)) with lastCol := some (a, e) }
        (.sendCommand (.setColumnAddress a e)) .ok)
    ∧ exec (.sendCommand (.setRowAddress a e)) s = .next (State.answered
        { s.sends (0x02B#9 :: (boundWords a.toNat ++ boundWords e.toNat)) with lastRow := some (a, e) }
        (.sendCommand (.setRowAddress a e)) .ok)

/-- SEND_COMMAND(MemoryWrite) is refused by its form in every state, whatever the engine is doing (R103, R150, R260,
R261). The refusal is the spec's own choice (D12); that it is not held first while the engine is Busy is the model's
reading (log 17). -/
def Obligations.SendMemoryWriteIsRefused : Prop :=
  ∀ s : State, exec (.sendCommand .memoryWrite) s = .refused .memWriteWithoutWindow

/-! ### Addressing-Window Translator (spec/42_window_translator.md) -/

/-- VALIDATE answers whether the rectangle lies inside the surface, on unbounded naturals, and touches nothing else. That
the truth value is returned like a result is the model's choice (log 6; R171, D9). -/
def Obligations.ValidateAnswersTheInvariant : Prop :=
  ∀ (r : Rect) (s : State), exec (.validate r) s = .next (s.reply
    { agent := s.caller, op := .request (.validate r),
      result := .validity (decide (r.x + r.width ≤ s.cfg.width ∧ r.y + r.height ≤ s.cfg.height)) })

/-- SET_WINDOW in Landscape: `0x2A` with the x-range, then `0x2B` with the y-range, then `0x2C`; origin and origin plus
extent, big-endian; the ghosts and the payload owed (R174). -/
def Obligations.LandscapeWindow : Prop :=
  ∀ (r : Rect) (s : State), s.fault = none → s.linesUp → s.cfg.ok = true → s.cfg.orientation = .landscape →
    r.validIn s.cfg = true →
    exec (.setWindow r) s = .next { s.sends
        ([0x02A#9] ++ boundWords r.x ++ boundWords (r.x + r.width)
          ++ [0x02B#9] ++ boundWords r.y ++ boundWords (r.y + r.height) ++ [0x02C#9]) with
      lastCol := some (BitVec.ofNat 16 r.x, BitVec.ofNat 16 (r.x + r.width))
      lastRow := some (BitVec.ofNat 16 r.y, BitVec.ofNat 16 (r.y + r.height))
      streamPending := 2 * r.width * r.height }

/-- SET_WINDOW in Portrait: `0x2B` with the x-range first, then `0x2A` with the y-range, then `0x2C` (R175). -/
def Obligations.PortraitWindow : Prop :=
  ∀ (r : Rect) (s : State), s.fault = none → s.linesUp → s.cfg.ok = true → s.cfg.orientation = .portrait →
    r.validIn s.cfg = true →
    exec (.setWindow r) s = .next { s.sends
        ([0x02B#9] ++ boundWords r.x ++ boundWords (r.x + r.width)
          ++ [0x02A#9] ++ boundWords r.y ++ boundWords (r.y + r.height) ++ [0x02C#9]) with
      lastRow := some (BitVec.ofNat 16 r.x, BitVec.ofNat 16 (r.x + r.width))
      lastCol := some (BitVec.ofNat 16 r.y, BitVec.ofNat 16 (r.y + r.height))
      streamPending := 2 * r.width * r.height }

/-- SET_WINDOW entered with an invalid rectangle raises the precondition fault and emits nothing (R173). -/
def Obligations.SetWindowNeedsAValidRectangle : Prop :=
  ∀ (r : Rect) (s : State), (s.cfg.width < r.x + r.width ∨ s.cfg.height < r.y + r.height) →
    exec (.setWindow r) s = .next { s with fault := some (.precondition (.setWindowInvalid r)) }

/-! ### Pixel Buffer Transfer (spec/43_pixel_streamer.md) -/

/-- TRANSFER_REGION of a valid rectangle in an initialized instance: window, the buffer's bytes row-major, display-on,
`OK`; the buffer is unchanged (R191, R192, R195, R199). -/
def Obligations.TransferRegionStreamsTheBuffer : Prop :=
  ∀ (r : Rect) (m : Memory) (s : State), s.ready → s.linesUp → s.phase = .initialized → s.buffer = some m →
    r.validIn s.cfg = true →
    exec (.transferRegion r) s = .next
      ((s.transferred r (bufferPayload s.cfg m r)).answered (.transferRegion r) .ok)

/-- FILL_REGION of a valid rectangle in an initialized instance: window, the colour low byte first once per pixel,
display-on, `OK`; the buffer is neither read nor written (R193, R195, R199). -/
def Obligations.FillRegionStreamsTheColor : Prop :=
  ∀ (r : Rect) (color : U16) (s : State), s.ready → s.linesUp → s.phase = .initialized → r.validIn s.cfg = true →
    exec (.fillRegion r color) s = .next ((s.transferred r
      (List.replicate (r.width * r.height)
        [dataWordOf (color.toNat % 256), dataWordOf (color.toNat / 256)]).flatten).answered
      (.fillRegion r color) .ok)

/-- TRANSFER_FULL_FRAME in an initialized instance: the full-panel window, every buffer byte once in offset order,
display-on, `OK` (R181, R194). -/
def Obligations.FullFrameStreamsTheBufferInOrder : Prop :=
  ∀ (m : Memory) (s : State), s.ready → s.linesUp → s.phase = .initialized → s.buffer = some m →
    exec .transferFullFrame s = .next ((s.transferred s.cfg.fullPanel
      ((List.range (2 * (s.cfg.width * s.cfg.height))).map fun o => dataWordOf (m.read o).toNat)).answered
      .transferFullFrame .ok)

/-- REFRESH_TICK in an initialized instance has the full frame's effect, and its status goes to no one (R230). -/
def Obligations.RefreshTickIsAFullFrame : Prop :=
  ∀ (m : Memory) (s : State), s.ready → s.linesUp → s.phase = .initialized → s.buffer = some m →
    exec .refreshTick s = .next (s.transferred s.cfg.fullPanel
      ((List.range (2 * (s.cfg.width * s.cfg.height))).map fun o => dataWordOf (m.read o).toNat))

/-- A request with an invalid rectangle: after the phase checks, and before anything else, it is rejected with no event, no
lock and no change but the returned `E_INVALID_ARGUMENT` (R172). -/
def Obligations.InvalidRectanglesAreRejected : Prop :=
  ∀ (r : Rect) (color : U16) (s : State), s.ready → (s.cfg.width < r.x + r.width ∨ s.cfg.height < r.y + r.height) →
    ∀ i ∈ [Instr.transferRegion r, .fillRegion r color],
      exec i s = .next (match s.phase with
        | .detached => { s with fault := some (.notAttached i .phaseIsDetached) }
        | .configured => { s with fault := some (.notInitialized i .phaseIsConfigured) }
        | .initialized => s.answered i .invalidArgument)

/-- In phase Configured the three transfers and the tick fault, an invalid rectangle or not, with no event (R258, R261;
the phases and this order are the spec's own choices, D11, D14). -/
def Obligations.TransfersNeedAnInitializedPanel : Prop :=
  ∀ (i : Instr) (s : State), s.ready → s.phase = .configured →
    ((∃ r, i = .transferRegion r) ∨ (∃ r c, i = .fillRegion r c) ∨ i = .transferFullFrame ∨ i = .refreshTick) →
    exec i s = .next { s with fault := some (.notInitialized i .phaseIsConfigured) }

/-- Exact pixel count: a payload is two data words per pixel and nothing else, so a transfer is `2·w·h + 12` words
(R196, R200). -/
def Obligations.PayloadIsTwoDataWordsPerPixel : Prop :=
  ∀ (c : Cfg) (m : Memory) (r : Rect),
    (bufferPayload c m r).length = 2 * r.width * r.height ∧ (∀ w ∈ bufferPayload c m r, BusWord.isData w = true)
    ∧ (transferWords c r (bufferPayload c m r)).length = 2 * (r.width * r.height) + 12

/-- A buffer that holds a colour at every pixel of a rectangle, low byte at the even offset, is transferred as that colour
is filled: TRANSFER_REGION and FILL_REGION leave the same trace and the same levels (R64, R65, R66; the byte order of a
buffer pixel is the spec's own choice, D7). -/
def Obligations.UniformBufferStreamsAsAFill : Prop :=
  ∀ (r : Rect) (color : U16) (s : State), s.ready → s.linesUp → s.phase = .initialized → r.validIn s.cfg = true →
    (∀ p ∈ r.pixels, s.pixelValue p.1 p.2 = some color) → s.buffer.isSome = true →
    ∃ t u, exec (.transferRegion r) s = .next t ∧ exec (.fillRegion r color) s = .next u
      ∧ t.fault = none ∧ t.trace = u.trace ∧ t.level = u.level

/-! ### Host surface boundary (spec/44_host_surface.md) -/

/-- ATTACH of a legal configuration with both draws true, in phase Detached: the zeroed buffer, the configured lines at
their idle levels, the default rate, the timer off, phase Configured, `OK` (R32, R43, R221). -/
def Obligations.AttachCreatesTheInstance : Prop :=
  ∀ (cfg : Cfg) (s : State), s.ready → s.phase = .detached → cfg.ok = true → cfg.allocOk = true → cfg.gpioMapOk = true →
    ∃ t, exec (.attach cfg) s = .next t ∧ t = State.answered { s with
        cfg := cfg
        buffer := some []
        refreshHz := cfg.refreshHzDefault
        mode := ByLine.const .output
        level := { d0 := .low, d1 := .low, d2 := .low, d3 := .low, d4 := .low, d5 := .low, d6 := .low, d7 := .low,
                   dc := .high, cs := .low, rd := .high, wr := .high, rst := .high }
        trace := s.trace ++ Line.all.flatMap fun l => [.mode l, .level l l.idle]
        lock := .free
        streamPending := 0
        lastCol := none
        lastRow := none
        timerArmed := false
        phase := .configured } (.attach cfg) .ok
      ∧ ∀ off, t.bufferByte off = if off < 2 * (cfg.width * cfg.height) then some 0#8 else none

/-- ATTACH's other outcomes in the order of R261: an illegal configuration is refused in every state; a second ATTACH
faults; a failed draw returns `E_INIT_FAILED` and changes nothing else (R221, R252; that order is the spec's own choice,
D14). That the refusal comes at once also while the engine is Busy, where R36 would hold the request, is the model's
reading of R103 and R261 (log 17). -/
def Obligations.AttachFailsInOrder : Prop :=
  ∀ (cfg : Cfg) (s : State),
    (cfg.ok = false → exec (.attach cfg) s = .refused .badCfg)
    ∧ (cfg.ok = true → s.ready → s.phase ≠ .detached →
        exec (.attach cfg) s = .next { s with fault := some (.alreadyAttached (.attach cfg) .phaseIsNotDetached) })
    ∧ (cfg.ok = true → s.ready → s.phase = .detached → (cfg.allocOk = false ∨ cfg.gpioMapOk = false) →
        exec (.attach cfg) s = .next (s.answered (.attach cfg) .initFailed))

/-- DETACH: with no instance a fault; else the buffer released, the lines forgotten, the timer off and ghosts cleared,
phase Detached, `OK`, and no event (R222; forgetting the lines is the spec's own choice, D21). That the lock is set free,
which R44 says and R222 does not, and that `cfg` and `refresh_hz` stay as they are, is the model's reading (log 16). -/
def Obligations.DetachReleasesTheInstance : Prop :=
  ∀ s : State, s.ready →
    (s.phase = .detached → exec .detach s = .next { s with fault := some (.notAttached .detach .phaseIsDetached) })
    ∧ (s.phase ≠ .detached → exec .detach s = .next (State.answered { s with
        phase := .detached
        buffer := none
        timerArmed := false
        lock := .free
        streamPending := 0
        lastCol := none
        lastRow := none
        mode := ByLine.const .unset
        level := ByLine.const .undriven } .detach .ok))

/-- No request runs into a precondition: from any state between requests that meets the invariant, no host request and no
tick ends in an F_PRECONDITION, so no line is driven before it is configured, no window is set of an invalid rectangle and
no byte outside the buffer is read (R122, R123, R173, R198, R258, R285). -/
def Obligations.NoRequestReachesAPrecondition : Prop :=
  ∀ (i : Instr) (s t : State), s.inv = true → s.ready → (i.isHostRequest = true ∨ i = .refreshTick) →
    exec i s = .next t → ∀ site, t.fault ≠ some (.precondition site)

/-- The phase moves by the table of R28 and in no other way: what each request that is taken in and raises no fault leaves
(the phase register is the spec's own choice, D11). -/
def Obligations.PhaseMovesByTheTable : Prop :=
  ∀ (i : Instr) (s t : State), s.ready → (i.isHostRequest = true ∨ i = .refreshTick) → exec i s = .next t →
    t.fault = none →
    t.phase = match i with
      | .attach cfg => if cfg.allocOk = true ∧ cfg.gpioMapOk = true then .configured else .detached
      | .detach => .detached
      | .hardReset => .configured
      | .sendCommand .reset => .configured
      | .initPanel => .initialized
      | _ => s.phase

/-- In phase Detached every request but ATTACH faults, names itself and the failed check, and changes nothing else: no
event (R258; that this is a fault of the model is the spec's own choice, D11, D33). -/
def Obligations.RequestsNeedAnInstance : Prop :=
  ∀ (i : Instr) (s : State), s.ready → s.phase = .detached → i.wellFormed = true →
    (i.isHostRequest = true ∨ i = .refreshTick) → (∀ cfg, i ≠ .attach cfg) →
    exec i s = .next { s with fault := some (.notAttached i .phaseIsDetached) }

/-- SET_REFRESH_RATE: a legal rate is stored, 0 and a rate above the maximum are rejected with no effect; no event (R229;
that 0 is rejected is the spec's own choice, D16). -/
def Obligations.RefreshRateIsBounded : Prop :=
  ∀ (hz : Nat) (s : State), s.ready → s.phase ≠ .detached →
    exec (.setRefreshRate hz) s = .next
      (if hz = 0 ∨ s.cfg.maxRefreshHz < hz then s.answered (.setRefreshRate hz) .invalidArgument
       else State.answered { s with refreshHz := hz } (.setRefreshRate hz) .ok)

/-- HOST_READ in an attached instance: an offset at or past the end returns `E_OUT_OF_RANGE` and no byte; else the bytes
from there, clamped to the space left, with `E_SIZE_MISMATCH` if they are fewer than asked for; nothing else changes, and
neither the engine nor the lock matters (R74, R223; the split of the two errors is the spec's own choice, D18). -/
def Obligations.HostReadIsClamped : Prop :=
  ∀ (off len : Nat) (m : Memory) (s : State), s.phase ≠ .detached → s.buffer = some m →
    exec (.hostRead off len) s = .next (s.reply
      { agent := s.caller
        op := .request (.hostRead off len)
        result := if s.cfg.bufSize ≤ off then .read .outOfRange []
          else .read (if s.cfg.bufSize < off + len then .sizeMismatch else .ok)
            ((List.range (min len (s.cfg.bufSize - off))).map fun k => m.read (off + k)) })

/-- HOST_WRITE in an attached instance: an offset at or past the end returns `E_OUT_OF_RANGE`, also while a transfer holds
the lock, since the range is checked before the operation is held (R262); else, with the lock free, the
bytes that fit are stored from there and counted, with `E_SIZE_MISMATCH` if some were dropped. Every byte outside the
stored ones reads as before, every stored one reads as given, and nothing else of the state changes (R224, R225; the
split of the two errors is the spec's own choice, D18). -/
def Obligations.HostWriteStoresTheClampedBytes : Prop :=
  ∀ (off : Nat) (bytes : List Byte) (m : Memory) (s : State), s.phase ≠ .detached →
    (s.cfg.bufSize ≤ off → exec (.hostWrite off bytes) s = .next (s.reply
      { agent := s.caller, op := .request (.hostWrite off bytes), result := .written .outOfRange 0 }))
    ∧ (off < s.cfg.bufSize → s.buffer = some m → m.wf = true → s.lock = .free →
      ∃ m', exec (.hostWrite off bytes) s = .next (State.reply { s with buffer := some m' }
        { agent := s.caller
          op := .request (.hostWrite off bytes)
          result := .written (if s.cfg.bufSize < off + bytes.length then .sizeMismatch else .ok)
            (min bytes.length (s.cfg.bufSize - off)) })
      ∧ ∀ a, m'.read a =
          if off ≤ a ∧ a < off + min bytes.length (s.cfg.bufSize - off) then bytes.getD (a - off) 0#8 else m.read a)

/-- Writing one byte of the buffer changes that byte and no other, in any buffer of canonical form. -/
def Obligations.BufferReadAfterWrite : Prop :=
  ∀ (m : Memory) (off a : Nat) (b : Byte), m.wf = true → (m.write off b).read a = if a = off then b else m.read a

/-- Equal contents are equal buffers: two buffers of canonical form that read the same everywhere are one. -/
def Obligations.CanonicalBuffersAreEqualWhenTheyReadEqual : Prop :=
  ∀ m m' : Memory, m.wf = true → m'.wf = true → (∀ a, m.read a = m'.read a) → m = m'

/-- A host's turn with HOST_BLIT, in either view: a source of the wrong length is refused; of an invalid rectangle it
returns `E_INVALID_ARGUMENT` with no effect; else its row writes and its transfer become the host's next operations, each
a step of its own (R228, R260). With no instance it faults as TRANSFER_REGION, and all this comes at
once, also while the engine is Busy: both are the model's choice (log 13). -/
def Obligations.BlitExpandsToRowWritesAndATransfer : Prop :=
  ∀ (view : View) (k : Nat) (r : Rect) (src : List Byte) (ops : List HostOp) (rest : List Turn) (s : State),
    s.fault = none → s.schedule = .present (.host k) view :: rest → s.waiting k = false →
    s.hosts[k]? = some (.blit r src :: ops) →
    (src.length ≠ 2 * r.width * r.height → step s = .refused .blitLength)
    ∧ (src.length = 2 * r.width * r.height → s.phase = .detached →
        step s = .next { s with
          schedule := rest
          hosts := s.hosts.set k ops
          caller := .host k
          fault := some (.notAttached (.transferRegion r) .phaseIsDetached) })
    ∧ (src.length = 2 * r.width * r.height → s.phase ≠ .detached → r.validIn s.cfg = false →
        step s = .next (State.reply { s with schedule := rest, hosts := s.hosts.set k ops, caller := .host k }
          { agent := .host k, op := .blit r src, result := .status .invalidArgument }))
    ∧ (src.length = 2 * r.width * r.height → s.phase ≠ .detached → r.validIn s.cfg = true →
        step s = .next { s with
          schedule := rest
          caller := .host k
          hosts := s.hosts.set k
            ((List.range r.height).map (fun j => .request (.hostWrite (2 * ((r.y + j) * s.cfg.width + r.x))
                ((src.drop (2 * r.width * j)).take (2 * r.width))))
              ++ [.request (.transferRegion r)] ++ ops) })

/-- A blit shows its source: the requests it expands to, run one after the other in an initialized instance, put the source
into the rows of the buffer and end in a transfer whose payload is the source bytes in order, whatever the buffer held
before (R62, R191, R228). -/
def Obligations.BlitStreamsItsSource : Prop :=
  ∀ (r : Rect) (src : List Byte) (m : Memory) (s : State), m.wf = true → r.validIn s.cfg = true →
    src.length = 2 * r.width * r.height →
    bufferPayload s.cfg (blitBuffer s.cfg r src m) r = src.map dataBusWord
    ∧ (s.ready → s.linesUp → s.phase = .initialized → s.lock = .free → s.buffer = some m →
      ∃ t, execInOrder (requestsOf (blitRequests s.cfg r src)) s = .next t ∧ t.fault = none
        ∧ t.buffer = some (blitBuffer s.cfg r src m)
        ∧ t.trace = s.trace ++ wordsEvents (transferWords s.cfg r (src.map dataBusWord)))
end

