-- ==== Sys2Proof/Laws/Lines.lean ====
section
/-! SUPPORT. The line registers: what is read after a line or the data bus is driven. -/

namespace Sys2Proof

open Machine

@[simp] theorem ByLine.get_set_same {α : Type} (f : ByLine α) (l : Line) (a : α) : (f.set l a).get l = a := by
  cases l <;> rfl

theorem ByLine.get_set_other {α : Type} (f : ByLine α) (l l' : Line) (a : α) (h : l' ≠ l) :
    (f.set l a).get l' = f.get l' := by
  cases l <;> cases l' <;> first | rfl | exact absurd rfl h

@[simp] theorem ByLine.get_const {α : Type} (a : α) (l : Line) : (ByLine.const a).get l = a := by
  cases l <;> rfl

@[simp] theorem ByLine.const_dataOutputs : (ByLine.const LineMode.output).dataOutputs = true := rfl

/-- Driving the data bus leaves the control lines. -/
theorem ByLine.driveByte_control (f : ByLine Level) (b : Byte) :
    (f.driveByte b).dc = f.dc ∧ (f.driveByte b).cs = f.cs ∧ (f.driveByte b).rd = f.rd
      ∧ (f.driveByte b).wr = f.wr ∧ (f.driveByte b).rst = f.rst := ⟨rfl, rfl, rfl, rfl, rfl⟩

/-- What one cycle leaves does not depend on what the cycle before left. -/
theorem levelsAfterWord_last (f : ByLine Level) (w w' : BusWord) :
    levelsAfterWord (levelsAfterWord f w) w' = levelsAfterWord f w' := rfl

/-- The levels after a word list are those of its last word. -/
theorem levelsAfterWords_concat (f : ByLine Level) (ws : List BusWord) (w : BusWord) :
    (ws ++ [w]).foldl levelsAfterWord f = levelsAfterWord f w := by
  rw [List.foldl_append]
  change levelsAfterWord (ws.foldl levelsAfterWord f) w = _
  induction ws generalizing f with
  | nil => rfl
  | cons v ws ih => rw [List.foldl_cons, ih, levelsAfterWord_last]

end Sys2Proof
end

