-- ==== Sys2Proof/Laws/Memory.lean ====
section
/-! SUPPORT. The canonical form of the pixel buffer: every memory operation keeps it, and the reset buffer has it. -/

namespace Sys2Proof.Machine

open Sys2Proof

theorem Memory.wfFrom_cons (lo a : Nat) (b : Byte) (m : Memory) :
    Memory.wfFrom lo ((a, b) :: m) = true ↔ lo ≤ a ∧ b ≠ Memory.blank ∧ Memory.wfFrom (a + 1) m = true := by
  simp [Memory.wfFrom, and_assoc]

/-- A canonical list stays canonical from any lower bound. -/
theorem Memory.wfFrom_mono {lo lo' : Nat} {m : Memory} (h : Memory.wfFrom lo m = true) (hl : lo' ≤ lo) :
    Memory.wfFrom lo' m = true := by
  cases m with
  | nil => rfl
  | cons c m =>
    obtain ⟨a, b⟩ := c
    rw [Memory.wfFrom_cons] at h ⊢
    exact ⟨by omega, h.2⟩

theorem Memory.cons_wfFrom {lo off : Nat} {b : Byte} {m : Memory} (h : Memory.wfFrom (off + 1) m = true)
    (hl : lo ≤ off) : Memory.wfFrom lo (Memory.cons off b m) = true := by
  unfold Memory.cons
  split
  · exact Memory.wfFrom_mono h (by omega)
  · next hb => exact (Memory.wfFrom_cons ..).2 ⟨hl, hb, h⟩

theorem Memory.write_wfFrom (m : Memory) (lo off : Nat) (b : Byte) (h : Memory.wfFrom lo m = true) (hl : lo ≤ off) :
    Memory.wfFrom lo (m.write off b) = true := by
  induction m generalizing lo with
  | nil => exact Memory.cons_wfFrom rfl hl
  | cons c m ih =>
    obtain ⟨a, d⟩ := c
    have hc := (Memory.wfFrom_cons ..).1 h
    simp only [Memory.write]
    split
    · next hlt => exact Memory.cons_wfFrom ((Memory.wfFrom_cons ..).2 ⟨hlt, hc.2⟩) hl
    · split
      · next heq =>
        subst heq
        exact Memory.cons_wfFrom hc.2.2 hl
      · exact (Memory.wfFrom_cons ..).2 ⟨hc.1, hc.2.1, ih (a + 1) hc.2.2 (by omega)⟩

/-- Writing a byte keeps the canonical form. -/
theorem Memory.write_wf (m : Memory) (off : Nat) (b : Byte) (h : m.wf = true) : (m.write off b).wf = true :=
  Memory.write_wfFrom m 0 off b h (Nat.zero_le _)

/-- Writing bytes keeps the canonical form. -/
theorem Memory.writeBytes_wf (bs : List Byte) (m : Memory) (off : Nat) (h : m.wf = true) :
    (m.writeBytes off bs).wf = true := by
  induction bs generalizing m off with
  | nil => exact h
  | cons b bs ih => exact ih _ _ (Memory.write_wf m off b h)

theorem Memory.write_within (m : Memory) (off size : Nat) (b : Byte) (h : m.within size = true) (ho : off < size) :
    (m.write off b).within size = true := by
  have cons_within : ∀ m' : Memory, m'.within size = true → (Memory.cons off b m').within size = true := by
    intro m' h'
    unfold Memory.cons
    split
    · exact h'
    · simpa [Memory.within, ho] using h'
  induction m with
  | nil => exact cons_within _ h
  | cons c m ih =>
    have hc : c.1 < size ∧ Memory.within m size = true := by simpa [Memory.within] using h
    simp only [Memory.write]
    split
    · exact cons_within _ h
    · split
      · exact cons_within _ hc.2
      · simpa [Memory.within, hc.1] using ih hc.2

/-- Writing bytes inside the size stays inside it. -/
theorem Memory.writeBytes_within (bs : List Byte) (m : Memory) (off size : Nat) (h : m.within size = true)
    (ho : off + bs.length ≤ size) : (m.writeBytes off bs).within size = true := by
  induction bs generalizing m off with
  | nil => exact h
  | cons b bs ih =>
    simp only [List.length_cons] at ho
    exact ih _ _ (Memory.write_within m off size b h (by omega)) (by omega)

/-- A fresh buffer is canonical (R32). -/
theorem Memory.nil_wf : Memory.wf [] = true := rfl

theorem Memory.read_nil (off : Nat) : Memory.read [] off = Memory.blank := rfl

/-- Below its lower bound a canonical list reads blank. -/
theorem Memory.read_of_lt {lo off : Nat} {m : Memory} (h : Memory.wfFrom lo m = true) (ho : off < lo) :
    m.read off = Memory.blank := by
  induction m generalizing lo with
  | nil => rfl
  | cons c m ih =>
    obtain ⟨a, b⟩ := c
    have hc := (Memory.wfFrom_cons ..).1 h
    simp only [Memory.read]
    rw [if_neg (by omega)]
    exact ih hc.2.2 (by omega)

/-- The reset state's buffer has the canonical form: there is none yet. -/
theorem reset_bufferOk : State.reset.buffer = none := rfl

end Sys2Proof.Machine
end

