-- ==== Sys2Proof/Laws/PerInstr.lean ====
section
/-! SUPPORT. One fact per instruction: it has an encoding exactly if it is a bus-word row of the opcode table, and a
bus-word row's encoding has one to five words. -/

namespace Sys2Proof.Laws

/-- The words of an instruction: none for a request or an internal operation (R97, R98), one to five for a bus-word row
(R92). -/
def Encoded.Statement (i : Instr) : Prop :=
  match encode i with
  | none => i.isBusFrame = false
  | some ws => i.isBusFrame = true ∧ 1 ≤ ws.length ∧ ws.length ≤ 5

theorem Encoded.cmdReset : Encoded.Statement .cmdReset := ⟨rfl, by decide, by decide⟩
theorem Encoded.cmdSleepOut : Encoded.Statement .cmdSleepOut := ⟨rfl, by decide, by decide⟩
theorem Encoded.cmdDisplayOn : Encoded.Statement .cmdDisplayOn := ⟨rfl, by decide, by decide⟩
theorem Encoded.cmdColumnAddressSet (start stop : U16) : Encoded.Statement (.cmdColumnAddressSet start stop) := ⟨rfl, Nat.le_of_ble_eq_true rfl, Nat.le_of_ble_eq_true rfl⟩
theorem Encoded.cmdRowAddressSet (start stop : U16) : Encoded.Statement (.cmdRowAddressSet start stop) := ⟨rfl, Nat.le_of_ble_eq_true rfl, Nat.le_of_ble_eq_true rfl⟩
theorem Encoded.cmdMemoryWrite : Encoded.Statement .cmdMemoryWrite := ⟨rfl, by decide, by decide⟩
theorem Encoded.cmdPixelFormat (v : Byte) : Encoded.Statement (.cmdPixelFormat v) := ⟨rfl, Nat.le_of_ble_eq_true rfl, Nat.le_of_ble_eq_true rfl⟩
theorem Encoded.dataWord (b : Byte) : Encoded.Statement (.dataWord b) := ⟨rfl, Nat.le_of_ble_eq_true rfl, Nat.le_of_ble_eq_true rfl⟩
theorem Encoded.attach (cfg : Cfg) : Encoded.Statement (.attach cfg) := rfl
theorem Encoded.detach : Encoded.Statement .detach := rfl
theorem Encoded.hardReset : Encoded.Statement .hardReset := rfl
theorem Encoded.initPanel : Encoded.Statement .initPanel := rfl
theorem Encoded.sendCommand (cmd : Command) : Encoded.Statement (.sendCommand cmd) := rfl
theorem Encoded.transferRegion (r : Rect) : Encoded.Statement (.transferRegion r) := rfl
theorem Encoded.fillRegion (r : Rect) (color : U16) : Encoded.Statement (.fillRegion r color) := rfl
theorem Encoded.transferFullFrame : Encoded.Statement .transferFullFrame := rfl
theorem Encoded.setRefreshRate (hz : Nat) : Encoded.Statement (.setRefreshRate hz) := rfl
theorem Encoded.refreshTick : Encoded.Statement .refreshTick := rfl
theorem Encoded.hostRead (off len : Nat) : Encoded.Statement (.hostRead off len) := rfl
theorem Encoded.hostWrite (off : Nat) (bytes : List Byte) : Encoded.Statement (.hostWrite off bytes) := rfl
theorem Encoded.configureOutputs : Encoded.Statement .configureOutputs := rfl
theorem Encoded.setLine (l : Line) (v : Bool) : Encoded.Statement (.setLine l v) := rfl
theorem Encoded.writeParallelByte (b : Byte) : Encoded.Statement (.writeParallelByte b) := rfl
theorem Encoded.writeCommand (b : Byte) : Encoded.Statement (.writeCommand b) := rfl
theorem Encoded.writeData (b : Byte) : Encoded.Statement (.writeData b) := rfl
theorem Encoded.delay (ms : Nat) : Encoded.Statement (.delay ms) := rfl
theorem Encoded.validate (r : Rect) : Encoded.Statement (.validate r) := rfl
theorem Encoded.setWindow (r : Rect) : Encoded.Statement (.setWindow r) := rfl

end Sys2Proof.Laws
end

