-- ==== Sys2Proof/Laws/Schedule.lean ====
section
/-! SUPPORT. What issuing a request comes to in each view. -/

namespace Sys2Proof.Machine

open Sys2Proof

/-- In the whole view a request is its meaning (R14). -/
theorem issue_whole (i : Instr) (s : State) : issue .whole i s = exec i s := rfl

/-- In the stepped view an engine request is begun as its plan says (R34). -/
theorem issue_stepped {i : Instr} {s : State} {plan : Plan} (h : enginePlan i s = some plan) :
    issue .stepped i s = presentEngine .stepped i plan s := by
  simp [issue, h]

/-- What does not go through the engine has no plan (R36). -/
theorem enginePlan_eq_none {i : Instr} (h : i.isEngineRequest = false) (s : State) : enginePlan i s = none := by
  cases i <;> first | rfl | cases h

/-- What does not go through the engine is its meaning in either view. -/
theorem issue_of_not_engine {i : Instr} (h : i.isEngineRequest = false) (view : View) (s : State) :
    issue view i s = exec i s := by
  cases view
  · rfl
  · simp [issue, enginePlan_eq_none h]

end Sys2Proof.Machine
end

