-- ==== Sys2Proof/Laws/State.lean ====
section
/-! SUPPORT. One lemma per field per update of the state, so that no proof unfolds a record update. -/

namespace Sys2Proof.Machine

open Sys2Proof

variable (s : State)

@[simp] theorem State.raise_mode (f : Fault) : (s.raise f).mode = s.mode := rfl
@[simp] theorem State.raise_level (f : Fault) : (s.raise f).level = s.level := rfl
@[simp] theorem State.raise_phase (f : Fault) : (s.raise f).phase = s.phase := rfl
@[simp] theorem State.raise_timerArmed (f : Fault) : (s.raise f).timerArmed = s.timerArmed := rfl
@[simp] theorem State.raise_refreshHz (f : Fault) : (s.raise f).refreshHz = s.refreshHz := rfl
@[simp] theorem State.raise_cfg (f : Fault) : (s.raise f).cfg = s.cfg := rfl
@[simp] theorem State.raise_buffer (f : Fault) : (s.raise f).buffer = s.buffer := rfl
@[simp] theorem State.raise_lock (f : Fault) : (s.raise f).lock = s.lock := rfl
@[simp] theorem State.raise_engine (f : Fault) : (s.raise f).engine = s.engine := rfl
@[simp] theorem State.raise_lastCol (f : Fault) : (s.raise f).lastCol = s.lastCol := rfl
@[simp] theorem State.raise_lastRow (f : Fault) : (s.raise f).lastRow = s.lastRow := rfl
@[simp] theorem State.raise_streamPending (f : Fault) : (s.raise f).streamPending = s.streamPending := rfl
@[simp] theorem State.raise_trace (f : Fault) : (s.raise f).trace = s.trace := rfl
@[simp] theorem State.raise_fault (f : Fault) : (s.raise f).fault = some f := rfl
@[simp] theorem State.raise_script (f : Fault) : (s.raise f).script = s.script := rfl
@[simp] theorem State.raise_enginePort (f : Fault) : (s.raise f).enginePort = s.enginePort := rfl
@[simp] theorem State.raise_bufferPort (f : Fault) : (s.raise f).bufferPort = s.bufferPort := rfl
@[simp] theorem State.raise_returned (f : Fault) : (s.raise f).returned = s.returned := rfl
@[simp] theorem State.raise_hosts (f : Fault) : (s.raise f).hosts = s.hosts := rfl
@[simp] theorem State.raise_caller (f : Fault) : (s.raise f).caller = s.caller := rfl
@[simp] theorem State.raise_schedule (f : Fault) : (s.raise f).schedule = s.schedule := rfl

@[simp] theorem State.emit_mode (e : Event) : (s.emit e).mode = s.mode := rfl
@[simp] theorem State.emit_level (e : Event) : (s.emit e).level = s.level := rfl
@[simp] theorem State.emit_phase (e : Event) : (s.emit e).phase = s.phase := rfl
@[simp] theorem State.emit_timerArmed (e : Event) : (s.emit e).timerArmed = s.timerArmed := rfl
@[simp] theorem State.emit_refreshHz (e : Event) : (s.emit e).refreshHz = s.refreshHz := rfl
@[simp] theorem State.emit_cfg (e : Event) : (s.emit e).cfg = s.cfg := rfl
@[simp] theorem State.emit_buffer (e : Event) : (s.emit e).buffer = s.buffer := rfl
@[simp] theorem State.emit_lock (e : Event) : (s.emit e).lock = s.lock := rfl
@[simp] theorem State.emit_engine (e : Event) : (s.emit e).engine = s.engine := rfl
@[simp] theorem State.emit_lastCol (e : Event) : (s.emit e).lastCol = s.lastCol := rfl
@[simp] theorem State.emit_lastRow (e : Event) : (s.emit e).lastRow = s.lastRow := rfl
@[simp] theorem State.emit_streamPending (e : Event) : (s.emit e).streamPending = s.streamPending := rfl
@[simp] theorem State.emit_trace (e : Event) : (s.emit e).trace = s.trace ++ [e] := rfl
@[simp] theorem State.emit_fault (e : Event) : (s.emit e).fault = s.fault := rfl
@[simp] theorem State.emit_script (e : Event) : (s.emit e).script = s.script := rfl
@[simp] theorem State.emit_enginePort (e : Event) : (s.emit e).enginePort = s.enginePort := rfl
@[simp] theorem State.emit_bufferPort (e : Event) : (s.emit e).bufferPort = s.bufferPort := rfl
@[simp] theorem State.emit_returned (e : Event) : (s.emit e).returned = s.returned := rfl
@[simp] theorem State.emit_hosts (e : Event) : (s.emit e).hosts = s.hosts := rfl
@[simp] theorem State.emit_caller (e : Event) : (s.emit e).caller = s.caller := rfl
@[simp] theorem State.emit_schedule (e : Event) : (s.emit e).schedule = s.schedule := rfl

@[simp] theorem State.configureLine_mode (l : Line) : (s.configureLine l).mode = s.mode.set l .output := rfl
@[simp] theorem State.configureLine_level (l : Line) : (s.configureLine l).level = s.level := rfl
@[simp] theorem State.configureLine_phase (l : Line) : (s.configureLine l).phase = s.phase := rfl
@[simp] theorem State.configureLine_timerArmed (l : Line) : (s.configureLine l).timerArmed = s.timerArmed := rfl
@[simp] theorem State.configureLine_refreshHz (l : Line) : (s.configureLine l).refreshHz = s.refreshHz := rfl
@[simp] theorem State.configureLine_cfg (l : Line) : (s.configureLine l).cfg = s.cfg := rfl
@[simp] theorem State.configureLine_buffer (l : Line) : (s.configureLine l).buffer = s.buffer := rfl
@[simp] theorem State.configureLine_lock (l : Line) : (s.configureLine l).lock = s.lock := rfl
@[simp] theorem State.configureLine_engine (l : Line) : (s.configureLine l).engine = s.engine := rfl
@[simp] theorem State.configureLine_lastCol (l : Line) : (s.configureLine l).lastCol = s.lastCol := rfl
@[simp] theorem State.configureLine_lastRow (l : Line) : (s.configureLine l).lastRow = s.lastRow := rfl
@[simp] theorem State.configureLine_streamPending (l : Line) : (s.configureLine l).streamPending = s.streamPending := rfl
@[simp] theorem State.configureLine_trace (l : Line) : (s.configureLine l).trace = s.trace ++ [.mode l] := rfl
@[simp] theorem State.configureLine_fault (l : Line) : (s.configureLine l).fault = s.fault := rfl
@[simp] theorem State.configureLine_script (l : Line) : (s.configureLine l).script = s.script := rfl
@[simp] theorem State.configureLine_enginePort (l : Line) : (s.configureLine l).enginePort = s.enginePort := rfl
@[simp] theorem State.configureLine_bufferPort (l : Line) : (s.configureLine l).bufferPort = s.bufferPort := rfl
@[simp] theorem State.configureLine_returned (l : Line) : (s.configureLine l).returned = s.returned := rfl
@[simp] theorem State.configureLine_hosts (l : Line) : (s.configureLine l).hosts = s.hosts := rfl
@[simp] theorem State.configureLine_caller (l : Line) : (s.configureLine l).caller = s.caller := rfl
@[simp] theorem State.configureLine_schedule (l : Line) : (s.configureLine l).schedule = s.schedule := rfl

@[simp] theorem State.driveLine_mode (l : Line) (v : Bool) : (s.driveLine l v).mode = s.mode := rfl
@[simp] theorem State.driveLine_level (l : Line) (v : Bool) : (s.driveLine l v).level = s.level.set l (Level.ofBool v) := rfl
@[simp] theorem State.driveLine_phase (l : Line) (v : Bool) : (s.driveLine l v).phase = s.phase := rfl
@[simp] theorem State.driveLine_timerArmed (l : Line) (v : Bool) : (s.driveLine l v).timerArmed = s.timerArmed := rfl
@[simp] theorem State.driveLine_refreshHz (l : Line) (v : Bool) : (s.driveLine l v).refreshHz = s.refreshHz := rfl
@[simp] theorem State.driveLine_cfg (l : Line) (v : Bool) : (s.driveLine l v).cfg = s.cfg := rfl
@[simp] theorem State.driveLine_buffer (l : Line) (v : Bool) : (s.driveLine l v).buffer = s.buffer := rfl
@[simp] theorem State.driveLine_lock (l : Line) (v : Bool) : (s.driveLine l v).lock = s.lock := rfl
@[simp] theorem State.driveLine_engine (l : Line) (v : Bool) : (s.driveLine l v).engine = s.engine := rfl
@[simp] theorem State.driveLine_lastCol (l : Line) (v : Bool) : (s.driveLine l v).lastCol = s.lastCol := rfl
@[simp] theorem State.driveLine_lastRow (l : Line) (v : Bool) : (s.driveLine l v).lastRow = s.lastRow := rfl
@[simp] theorem State.driveLine_streamPending (l : Line) (v : Bool) : (s.driveLine l v).streamPending = s.streamPending := rfl
@[simp] theorem State.driveLine_trace (l : Line) (v : Bool) : (s.driveLine l v).trace = s.trace ++ [.level l v] := rfl
@[simp] theorem State.driveLine_fault (l : Line) (v : Bool) : (s.driveLine l v).fault = s.fault := rfl
@[simp] theorem State.driveLine_script (l : Line) (v : Bool) : (s.driveLine l v).script = s.script := rfl
@[simp] theorem State.driveLine_enginePort (l : Line) (v : Bool) : (s.driveLine l v).enginePort = s.enginePort := rfl
@[simp] theorem State.driveLine_bufferPort (l : Line) (v : Bool) : (s.driveLine l v).bufferPort = s.bufferPort := rfl
@[simp] theorem State.driveLine_returned (l : Line) (v : Bool) : (s.driveLine l v).returned = s.returned := rfl
@[simp] theorem State.driveLine_hosts (l : Line) (v : Bool) : (s.driveLine l v).hosts = s.hosts := rfl
@[simp] theorem State.driveLine_caller (l : Line) (v : Bool) : (s.driveLine l v).caller = s.caller := rfl
@[simp] theorem State.driveLine_schedule (l : Line) (v : Bool) : (s.driveLine l v).schedule = s.schedule := rfl

@[simp] theorem State.driveBus_mode (b : Byte) : (s.driveBus b).mode = s.mode := rfl
@[simp] theorem State.driveBus_level (b : Byte) : (s.driveBus b).level = s.level.driveByte b := rfl
@[simp] theorem State.driveBus_phase (b : Byte) : (s.driveBus b).phase = s.phase := rfl
@[simp] theorem State.driveBus_timerArmed (b : Byte) : (s.driveBus b).timerArmed = s.timerArmed := rfl
@[simp] theorem State.driveBus_refreshHz (b : Byte) : (s.driveBus b).refreshHz = s.refreshHz := rfl
@[simp] theorem State.driveBus_cfg (b : Byte) : (s.driveBus b).cfg = s.cfg := rfl
@[simp] theorem State.driveBus_buffer (b : Byte) : (s.driveBus b).buffer = s.buffer := rfl
@[simp] theorem State.driveBus_lock (b : Byte) : (s.driveBus b).lock = s.lock := rfl
@[simp] theorem State.driveBus_engine (b : Byte) : (s.driveBus b).engine = s.engine := rfl
@[simp] theorem State.driveBus_lastCol (b : Byte) : (s.driveBus b).lastCol = s.lastCol := rfl
@[simp] theorem State.driveBus_lastRow (b : Byte) : (s.driveBus b).lastRow = s.lastRow := rfl
@[simp] theorem State.driveBus_streamPending (b : Byte) : (s.driveBus b).streamPending = s.streamPending := rfl
@[simp] theorem State.driveBus_trace (b : Byte) : (s.driveBus b).trace = s.trace ++ [.byte b] := rfl
@[simp] theorem State.driveBus_fault (b : Byte) : (s.driveBus b).fault = s.fault := rfl
@[simp] theorem State.driveBus_script (b : Byte) : (s.driveBus b).script = s.script := rfl
@[simp] theorem State.driveBus_enginePort (b : Byte) : (s.driveBus b).enginePort = s.enginePort := rfl
@[simp] theorem State.driveBus_bufferPort (b : Byte) : (s.driveBus b).bufferPort = s.bufferPort := rfl
@[simp] theorem State.driveBus_returned (b : Byte) : (s.driveBus b).returned = s.returned := rfl
@[simp] theorem State.driveBus_hosts (b : Byte) : (s.driveBus b).hosts = s.hosts := rfl
@[simp] theorem State.driveBus_caller (b : Byte) : (s.driveBus b).caller = s.caller := rfl
@[simp] theorem State.driveBus_schedule (b : Byte) : (s.driveBus b).schedule = s.schedule := rfl

@[simp] theorem State.allocate_mode (c : Cfg) : (s.allocate c).mode = s.mode := rfl
@[simp] theorem State.allocate_level (c : Cfg) : (s.allocate c).level = s.level := rfl
@[simp] theorem State.allocate_phase (c : Cfg) : (s.allocate c).phase = s.phase := rfl
@[simp] theorem State.allocate_timerArmed (c : Cfg) : (s.allocate c).timerArmed = false := rfl
@[simp] theorem State.allocate_refreshHz (c : Cfg) : (s.allocate c).refreshHz = c.refreshHzDefault := rfl
@[simp] theorem State.allocate_cfg (c : Cfg) : (s.allocate c).cfg = c := rfl
@[simp] theorem State.allocate_buffer (c : Cfg) : (s.allocate c).buffer = some [] := rfl
@[simp] theorem State.allocate_lock (c : Cfg) : (s.allocate c).lock = .free := rfl
@[simp] theorem State.allocate_engine (c : Cfg) : (s.allocate c).engine = s.engine := rfl
@[simp] theorem State.allocate_lastCol (c : Cfg) : (s.allocate c).lastCol = none := rfl
@[simp] theorem State.allocate_lastRow (c : Cfg) : (s.allocate c).lastRow = none := rfl
@[simp] theorem State.allocate_streamPending (c : Cfg) : (s.allocate c).streamPending = 0 := rfl
@[simp] theorem State.allocate_trace (c : Cfg) : (s.allocate c).trace = s.trace := rfl
@[simp] theorem State.allocate_fault (c : Cfg) : (s.allocate c).fault = s.fault := rfl
@[simp] theorem State.allocate_script (c : Cfg) : (s.allocate c).script = s.script := rfl
@[simp] theorem State.allocate_enginePort (c : Cfg) : (s.allocate c).enginePort = s.enginePort := rfl
@[simp] theorem State.allocate_bufferPort (c : Cfg) : (s.allocate c).bufferPort = s.bufferPort := rfl
@[simp] theorem State.allocate_returned (c : Cfg) : (s.allocate c).returned = s.returned := rfl
@[simp] theorem State.allocate_hosts (c : Cfg) : (s.allocate c).hosts = s.hosts := rfl
@[simp] theorem State.allocate_caller (c : Cfg) : (s.allocate c).caller = s.caller := rfl
@[simp] theorem State.allocate_schedule (c : Cfg) : (s.allocate c).schedule = s.schedule := rfl

@[simp] theorem State.release_mode : (s.release).mode = ByLine.const .unset := rfl
@[simp] theorem State.release_level : (s.release).level = ByLine.const .undriven := rfl
@[simp] theorem State.release_phase : (s.release).phase = .detached := rfl
@[simp] theorem State.release_timerArmed : (s.release).timerArmed = false := rfl
@[simp] theorem State.release_refreshHz : (s.release).refreshHz = s.refreshHz := rfl
@[simp] theorem State.release_cfg : (s.release).cfg = s.cfg := rfl
@[simp] theorem State.release_buffer : (s.release).buffer = none := rfl
@[simp] theorem State.release_lock : (s.release).lock = .free := rfl
@[simp] theorem State.release_engine : (s.release).engine = s.engine := rfl
@[simp] theorem State.release_lastCol : (s.release).lastCol = none := rfl
@[simp] theorem State.release_lastRow : (s.release).lastRow = none := rfl
@[simp] theorem State.release_streamPending : (s.release).streamPending = 0 := rfl
@[simp] theorem State.release_trace : (s.release).trace = s.trace := rfl
@[simp] theorem State.release_fault : (s.release).fault = s.fault := rfl
@[simp] theorem State.release_script : (s.release).script = s.script := rfl
@[simp] theorem State.release_enginePort : (s.release).enginePort = s.enginePort := rfl
@[simp] theorem State.release_bufferPort : (s.release).bufferPort = s.bufferPort := rfl
@[simp] theorem State.release_returned : (s.release).returned = s.returned := rfl
@[simp] theorem State.release_hosts : (s.release).hosts = s.hosts := rfl
@[simp] theorem State.release_caller : (s.release).caller = s.caller := rfl
@[simp] theorem State.release_schedule : (s.release).schedule = s.schedule := rfl

@[simp] theorem State.setPhase_mode (p : Phase) : (s.setPhase p).mode = s.mode := rfl
@[simp] theorem State.setPhase_level (p : Phase) : (s.setPhase p).level = s.level := rfl
@[simp] theorem State.setPhase_phase (p : Phase) : (s.setPhase p).phase = p := rfl
@[simp] theorem State.setPhase_timerArmed (p : Phase) : (s.setPhase p).timerArmed = s.timerArmed := rfl
@[simp] theorem State.setPhase_refreshHz (p : Phase) : (s.setPhase p).refreshHz = s.refreshHz := rfl
@[simp] theorem State.setPhase_cfg (p : Phase) : (s.setPhase p).cfg = s.cfg := rfl
@[simp] theorem State.setPhase_buffer (p : Phase) : (s.setPhase p).buffer = s.buffer := rfl
@[simp] theorem State.setPhase_lock (p : Phase) : (s.setPhase p).lock = s.lock := rfl
@[simp] theorem State.setPhase_engine (p : Phase) : (s.setPhase p).engine = s.engine := rfl
@[simp] theorem State.setPhase_lastCol (p : Phase) : (s.setPhase p).lastCol = s.lastCol := rfl
@[simp] theorem State.setPhase_lastRow (p : Phase) : (s.setPhase p).lastRow = s.lastRow := rfl
@[simp] theorem State.setPhase_streamPending (p : Phase) : (s.setPhase p).streamPending = s.streamPending := rfl
@[simp] theorem State.setPhase_trace (p : Phase) : (s.setPhase p).trace = s.trace := rfl
@[simp] theorem State.setPhase_fault (p : Phase) : (s.setPhase p).fault = s.fault := rfl
@[simp] theorem State.setPhase_script (p : Phase) : (s.setPhase p).script = s.script := rfl
@[simp] theorem State.setPhase_enginePort (p : Phase) : (s.setPhase p).enginePort = s.enginePort := rfl
@[simp] theorem State.setPhase_bufferPort (p : Phase) : (s.setPhase p).bufferPort = s.bufferPort := rfl
@[simp] theorem State.setPhase_returned (p : Phase) : (s.setPhase p).returned = s.returned := rfl
@[simp] theorem State.setPhase_hosts (p : Phase) : (s.setPhase p).hosts = s.hosts := rfl
@[simp] theorem State.setPhase_caller (p : Phase) : (s.setPhase p).caller = s.caller := rfl
@[simp] theorem State.setPhase_schedule (p : Phase) : (s.setPhase p).schedule = s.schedule := rfl

@[simp] theorem State.setTimer_mode (v : Bool) : (s.setTimer v).mode = s.mode := rfl
@[simp] theorem State.setTimer_level (v : Bool) : (s.setTimer v).level = s.level := rfl
@[simp] theorem State.setTimer_phase (v : Bool) : (s.setTimer v).phase = s.phase := rfl
@[simp] theorem State.setTimer_timerArmed (v : Bool) : (s.setTimer v).timerArmed = v := rfl
@[simp] theorem State.setTimer_refreshHz (v : Bool) : (s.setTimer v).refreshHz = s.refreshHz := rfl
@[simp] theorem State.setTimer_cfg (v : Bool) : (s.setTimer v).cfg = s.cfg := rfl
@[simp] theorem State.setTimer_buffer (v : Bool) : (s.setTimer v).buffer = s.buffer := rfl
@[simp] theorem State.setTimer_lock (v : Bool) : (s.setTimer v).lock = s.lock := rfl
@[simp] theorem State.setTimer_engine (v : Bool) : (s.setTimer v).engine = s.engine := rfl
@[simp] theorem State.setTimer_lastCol (v : Bool) : (s.setTimer v).lastCol = s.lastCol := rfl
@[simp] theorem State.setTimer_lastRow (v : Bool) : (s.setTimer v).lastRow = s.lastRow := rfl
@[simp] theorem State.setTimer_streamPending (v : Bool) : (s.setTimer v).streamPending = s.streamPending := rfl
@[simp] theorem State.setTimer_trace (v : Bool) : (s.setTimer v).trace = s.trace := rfl
@[simp] theorem State.setTimer_fault (v : Bool) : (s.setTimer v).fault = s.fault := rfl
@[simp] theorem State.setTimer_script (v : Bool) : (s.setTimer v).script = s.script := rfl
@[simp] theorem State.setTimer_enginePort (v : Bool) : (s.setTimer v).enginePort = s.enginePort := rfl
@[simp] theorem State.setTimer_bufferPort (v : Bool) : (s.setTimer v).bufferPort = s.bufferPort := rfl
@[simp] theorem State.setTimer_returned (v : Bool) : (s.setTimer v).returned = s.returned := rfl
@[simp] theorem State.setTimer_hosts (v : Bool) : (s.setTimer v).hosts = s.hosts := rfl
@[simp] theorem State.setTimer_caller (v : Bool) : (s.setTimer v).caller = s.caller := rfl
@[simp] theorem State.setTimer_schedule (v : Bool) : (s.setTimer v).schedule = s.schedule := rfl

@[simp] theorem State.setRate_mode (hz : Nat) : (s.setRate hz).mode = s.mode := rfl
@[simp] theorem State.setRate_level (hz : Nat) : (s.setRate hz).level = s.level := rfl
@[simp] theorem State.setRate_phase (hz : Nat) : (s.setRate hz).phase = s.phase := rfl
@[simp] theorem State.setRate_timerArmed (hz : Nat) : (s.setRate hz).timerArmed = s.timerArmed := rfl
@[simp] theorem State.setRate_refreshHz (hz : Nat) : (s.setRate hz).refreshHz = hz := rfl
@[simp] theorem State.setRate_cfg (hz : Nat) : (s.setRate hz).cfg = s.cfg := rfl
@[simp] theorem State.setRate_buffer (hz : Nat) : (s.setRate hz).buffer = s.buffer := rfl
@[simp] theorem State.setRate_lock (hz : Nat) : (s.setRate hz).lock = s.lock := rfl
@[simp] theorem State.setRate_engine (hz : Nat) : (s.setRate hz).engine = s.engine := rfl
@[simp] theorem State.setRate_lastCol (hz : Nat) : (s.setRate hz).lastCol = s.lastCol := rfl
@[simp] theorem State.setRate_lastRow (hz : Nat) : (s.setRate hz).lastRow = s.lastRow := rfl
@[simp] theorem State.setRate_streamPending (hz : Nat) : (s.setRate hz).streamPending = s.streamPending := rfl
@[simp] theorem State.setRate_trace (hz : Nat) : (s.setRate hz).trace = s.trace := rfl
@[simp] theorem State.setRate_fault (hz : Nat) : (s.setRate hz).fault = s.fault := rfl
@[simp] theorem State.setRate_script (hz : Nat) : (s.setRate hz).script = s.script := rfl
@[simp] theorem State.setRate_enginePort (hz : Nat) : (s.setRate hz).enginePort = s.enginePort := rfl
@[simp] theorem State.setRate_bufferPort (hz : Nat) : (s.setRate hz).bufferPort = s.bufferPort := rfl
@[simp] theorem State.setRate_returned (hz : Nat) : (s.setRate hz).returned = s.returned := rfl
@[simp] theorem State.setRate_hosts (hz : Nat) : (s.setRate hz).hosts = s.hosts := rfl
@[simp] theorem State.setRate_caller (hz : Nat) : (s.setRate hz).caller = s.caller := rfl
@[simp] theorem State.setRate_schedule (hz : Nat) : (s.setRate hz).schedule = s.schedule := rfl

@[simp] theorem State.setLock_mode (l : Lock) : (s.setLock l).mode = s.mode := rfl
@[simp] theorem State.setLock_level (l : Lock) : (s.setLock l).level = s.level := rfl
@[simp] theorem State.setLock_phase (l : Lock) : (s.setLock l).phase = s.phase := rfl
@[simp] theorem State.setLock_timerArmed (l : Lock) : (s.setLock l).timerArmed = s.timerArmed := rfl
@[simp] theorem State.setLock_refreshHz (l : Lock) : (s.setLock l).refreshHz = s.refreshHz := rfl
@[simp] theorem State.setLock_cfg (l : Lock) : (s.setLock l).cfg = s.cfg := rfl
@[simp] theorem State.setLock_buffer (l : Lock) : (s.setLock l).buffer = s.buffer := rfl
@[simp] theorem State.setLock_lock (l : Lock) : (s.setLock l).lock = l := rfl
@[simp] theorem State.setLock_engine (l : Lock) : (s.setLock l).engine = s.engine := rfl
@[simp] theorem State.setLock_lastCol (l : Lock) : (s.setLock l).lastCol = s.lastCol := rfl
@[simp] theorem State.setLock_lastRow (l : Lock) : (s.setLock l).lastRow = s.lastRow := rfl
@[simp] theorem State.setLock_streamPending (l : Lock) : (s.setLock l).streamPending = s.streamPending := rfl
@[simp] theorem State.setLock_trace (l : Lock) : (s.setLock l).trace = s.trace := rfl
@[simp] theorem State.setLock_fault (l : Lock) : (s.setLock l).fault = s.fault := rfl
@[simp] theorem State.setLock_script (l : Lock) : (s.setLock l).script = s.script := rfl
@[simp] theorem State.setLock_enginePort (l : Lock) : (s.setLock l).enginePort = s.enginePort := rfl
@[simp] theorem State.setLock_bufferPort (l : Lock) : (s.setLock l).bufferPort = s.bufferPort := rfl
@[simp] theorem State.setLock_returned (l : Lock) : (s.setLock l).returned = s.returned := rfl
@[simp] theorem State.setLock_hosts (l : Lock) : (s.setLock l).hosts = s.hosts := rfl
@[simp] theorem State.setLock_caller (l : Lock) : (s.setLock l).caller = s.caller := rfl
@[simp] theorem State.setLock_schedule (l : Lock) : (s.setLock l).schedule = s.schedule := rfl

@[simp] theorem State.setLastCol_mode (v : Option (U16 × U16)) : (s.setLastCol v).mode = s.mode := rfl
@[simp] theorem State.setLastCol_level (v : Option (U16 × U16)) : (s.setLastCol v).level = s.level := rfl
@[simp] theorem State.setLastCol_phase (v : Option (U16 × U16)) : (s.setLastCol v).phase = s.phase := rfl
@[simp] theorem State.setLastCol_timerArmed (v : Option (U16 × U16)) : (s.setLastCol v).timerArmed = s.timerArmed := rfl
@[simp] theorem State.setLastCol_refreshHz (v : Option (U16 × U16)) : (s.setLastCol v).refreshHz = s.refreshHz := rfl
@[simp] theorem State.setLastCol_cfg (v : Option (U16 × U16)) : (s.setLastCol v).cfg = s.cfg := rfl
@[simp] theorem State.setLastCol_buffer (v : Option (U16 × U16)) : (s.setLastCol v).buffer = s.buffer := rfl
@[simp] theorem State.setLastCol_lock (v : Option (U16 × U16)) : (s.setLastCol v).lock = s.lock := rfl
@[simp] theorem State.setLastCol_engine (v : Option (U16 × U16)) : (s.setLastCol v).engine = s.engine := rfl
@[simp] theorem State.setLastCol_lastCol (v : Option (U16 × U16)) : (s.setLastCol v).lastCol = v := rfl
@[simp] theorem State.setLastCol_lastRow (v : Option (U16 × U16)) : (s.setLastCol v).lastRow = s.lastRow := rfl
@[simp] theorem State.setLastCol_streamPending (v : Option (U16 × U16)) : (s.setLastCol v).streamPending = s.streamPending := rfl
@[simp] theorem State.setLastCol_trace (v : Option (U16 × U16)) : (s.setLastCol v).trace = s.trace := rfl
@[simp] theorem State.setLastCol_fault (v : Option (U16 × U16)) : (s.setLastCol v).fault = s.fault := rfl
@[simp] theorem State.setLastCol_script (v : Option (U16 × U16)) : (s.setLastCol v).script = s.script := rfl
@[simp] theorem State.setLastCol_enginePort (v : Option (U16 × U16)) : (s.setLastCol v).enginePort = s.enginePort := rfl
@[simp] theorem State.setLastCol_bufferPort (v : Option (U16 × U16)) : (s.setLastCol v).bufferPort = s.bufferPort := rfl
@[simp] theorem State.setLastCol_returned (v : Option (U16 × U16)) : (s.setLastCol v).returned = s.returned := rfl
@[simp] theorem State.setLastCol_hosts (v : Option (U16 × U16)) : (s.setLastCol v).hosts = s.hosts := rfl
@[simp] theorem State.setLastCol_caller (v : Option (U16 × U16)) : (s.setLastCol v).caller = s.caller := rfl
@[simp] theorem State.setLastCol_schedule (v : Option (U16 × U16)) : (s.setLastCol v).schedule = s.schedule := rfl

@[simp] theorem State.setLastRow_mode (v : Option (U16 × U16)) : (s.setLastRow v).mode = s.mode := rfl
@[simp] theorem State.setLastRow_level (v : Option (U16 × U16)) : (s.setLastRow v).level = s.level := rfl
@[simp] theorem State.setLastRow_phase (v : Option (U16 × U16)) : (s.setLastRow v).phase = s.phase := rfl
@[simp] theorem State.setLastRow_timerArmed (v : Option (U16 × U16)) : (s.setLastRow v).timerArmed = s.timerArmed := rfl
@[simp] theorem State.setLastRow_refreshHz (v : Option (U16 × U16)) : (s.setLastRow v).refreshHz = s.refreshHz := rfl
@[simp] theorem State.setLastRow_cfg (v : Option (U16 × U16)) : (s.setLastRow v).cfg = s.cfg := rfl
@[simp] theorem State.setLastRow_buffer (v : Option (U16 × U16)) : (s.setLastRow v).buffer = s.buffer := rfl
@[simp] theorem State.setLastRow_lock (v : Option (U16 × U16)) : (s.setLastRow v).lock = s.lock := rfl
@[simp] theorem State.setLastRow_engine (v : Option (U16 × U16)) : (s.setLastRow v).engine = s.engine := rfl
@[simp] theorem State.setLastRow_lastCol (v : Option (U16 × U16)) : (s.setLastRow v).lastCol = s.lastCol := rfl
@[simp] theorem State.setLastRow_lastRow (v : Option (U16 × U16)) : (s.setLastRow v).lastRow = v := rfl
@[simp] theorem State.setLastRow_streamPending (v : Option (U16 × U16)) : (s.setLastRow v).streamPending = s.streamPending := rfl
@[simp] theorem State.setLastRow_trace (v : Option (U16 × U16)) : (s.setLastRow v).trace = s.trace := rfl
@[simp] theorem State.setLastRow_fault (v : Option (U16 × U16)) : (s.setLastRow v).fault = s.fault := rfl
@[simp] theorem State.setLastRow_script (v : Option (U16 × U16)) : (s.setLastRow v).script = s.script := rfl
@[simp] theorem State.setLastRow_enginePort (v : Option (U16 × U16)) : (s.setLastRow v).enginePort = s.enginePort := rfl
@[simp] theorem State.setLastRow_bufferPort (v : Option (U16 × U16)) : (s.setLastRow v).bufferPort = s.bufferPort := rfl
@[simp] theorem State.setLastRow_returned (v : Option (U16 × U16)) : (s.setLastRow v).returned = s.returned := rfl
@[simp] theorem State.setLastRow_hosts (v : Option (U16 × U16)) : (s.setLastRow v).hosts = s.hosts := rfl
@[simp] theorem State.setLastRow_caller (v : Option (U16 × U16)) : (s.setLastRow v).caller = s.caller := rfl
@[simp] theorem State.setLastRow_schedule (v : Option (U16 × U16)) : (s.setLastRow v).schedule = s.schedule := rfl

@[simp] theorem State.setPending_mode (n : Nat) : (s.setPending n).mode = s.mode := rfl
@[simp] theorem State.setPending_level (n : Nat) : (s.setPending n).level = s.level := rfl
@[simp] theorem State.setPending_phase (n : Nat) : (s.setPending n).phase = s.phase := rfl
@[simp] theorem State.setPending_timerArmed (n : Nat) : (s.setPending n).timerArmed = s.timerArmed := rfl
@[simp] theorem State.setPending_refreshHz (n : Nat) : (s.setPending n).refreshHz = s.refreshHz := rfl
@[simp] theorem State.setPending_cfg (n : Nat) : (s.setPending n).cfg = s.cfg := rfl
@[simp] theorem State.setPending_buffer (n : Nat) : (s.setPending n).buffer = s.buffer := rfl
@[simp] theorem State.setPending_lock (n : Nat) : (s.setPending n).lock = s.lock := rfl
@[simp] theorem State.setPending_engine (n : Nat) : (s.setPending n).engine = s.engine := rfl
@[simp] theorem State.setPending_lastCol (n : Nat) : (s.setPending n).lastCol = s.lastCol := rfl
@[simp] theorem State.setPending_lastRow (n : Nat) : (s.setPending n).lastRow = s.lastRow := rfl
@[simp] theorem State.setPending_streamPending (n : Nat) : (s.setPending n).streamPending = n := rfl
@[simp] theorem State.setPending_trace (n : Nat) : (s.setPending n).trace = s.trace := rfl
@[simp] theorem State.setPending_fault (n : Nat) : (s.setPending n).fault = s.fault := rfl
@[simp] theorem State.setPending_script (n : Nat) : (s.setPending n).script = s.script := rfl
@[simp] theorem State.setPending_enginePort (n : Nat) : (s.setPending n).enginePort = s.enginePort := rfl
@[simp] theorem State.setPending_bufferPort (n : Nat) : (s.setPending n).bufferPort = s.bufferPort := rfl
@[simp] theorem State.setPending_returned (n : Nat) : (s.setPending n).returned = s.returned := rfl
@[simp] theorem State.setPending_hosts (n : Nat) : (s.setPending n).hosts = s.hosts := rfl
@[simp] theorem State.setPending_caller (n : Nat) : (s.setPending n).caller = s.caller := rfl
@[simp] theorem State.setPending_schedule (n : Nat) : (s.setPending n).schedule = s.schedule := rfl

@[simp] theorem State.setBuffer_mode (m : Memory) : (s.setBuffer m).mode = s.mode := rfl
@[simp] theorem State.setBuffer_level (m : Memory) : (s.setBuffer m).level = s.level := rfl
@[simp] theorem State.setBuffer_phase (m : Memory) : (s.setBuffer m).phase = s.phase := rfl
@[simp] theorem State.setBuffer_timerArmed (m : Memory) : (s.setBuffer m).timerArmed = s.timerArmed := rfl
@[simp] theorem State.setBuffer_refreshHz (m : Memory) : (s.setBuffer m).refreshHz = s.refreshHz := rfl
@[simp] theorem State.setBuffer_cfg (m : Memory) : (s.setBuffer m).cfg = s.cfg := rfl
@[simp] theorem State.setBuffer_buffer (m : Memory) : (s.setBuffer m).buffer = some m := rfl
@[simp] theorem State.setBuffer_lock (m : Memory) : (s.setBuffer m).lock = s.lock := rfl
@[simp] theorem State.setBuffer_engine (m : Memory) : (s.setBuffer m).engine = s.engine := rfl
@[simp] theorem State.setBuffer_lastCol (m : Memory) : (s.setBuffer m).lastCol = s.lastCol := rfl
@[simp] theorem State.setBuffer_lastRow (m : Memory) : (s.setBuffer m).lastRow = s.lastRow := rfl
@[simp] theorem State.setBuffer_streamPending (m : Memory) : (s.setBuffer m).streamPending = s.streamPending := rfl
@[simp] theorem State.setBuffer_trace (m : Memory) : (s.setBuffer m).trace = s.trace := rfl
@[simp] theorem State.setBuffer_fault (m : Memory) : (s.setBuffer m).fault = s.fault := rfl
@[simp] theorem State.setBuffer_script (m : Memory) : (s.setBuffer m).script = s.script := rfl
@[simp] theorem State.setBuffer_enginePort (m : Memory) : (s.setBuffer m).enginePort = s.enginePort := rfl
@[simp] theorem State.setBuffer_bufferPort (m : Memory) : (s.setBuffer m).bufferPort = s.bufferPort := rfl
@[simp] theorem State.setBuffer_returned (m : Memory) : (s.setBuffer m).returned = s.returned := rfl
@[simp] theorem State.setBuffer_hosts (m : Memory) : (s.setBuffer m).hosts = s.hosts := rfl
@[simp] theorem State.setBuffer_caller (m : Memory) : (s.setBuffer m).caller = s.caller := rfl
@[simp] theorem State.setBuffer_schedule (m : Memory) : (s.setBuffer m).schedule = s.schedule := rfl

@[simp] theorem State.setEngine_mode (e : Engine) : (s.setEngine e).mode = s.mode := rfl
@[simp] theorem State.setEngine_level (e : Engine) : (s.setEngine e).level = s.level := rfl
@[simp] theorem State.setEngine_phase (e : Engine) : (s.setEngine e).phase = s.phase := rfl
@[simp] theorem State.setEngine_timerArmed (e : Engine) : (s.setEngine e).timerArmed = s.timerArmed := rfl
@[simp] theorem State.setEngine_refreshHz (e : Engine) : (s.setEngine e).refreshHz = s.refreshHz := rfl
@[simp] theorem State.setEngine_cfg (e : Engine) : (s.setEngine e).cfg = s.cfg := rfl
@[simp] theorem State.setEngine_buffer (e : Engine) : (s.setEngine e).buffer = s.buffer := rfl
@[simp] theorem State.setEngine_lock (e : Engine) : (s.setEngine e).lock = s.lock := rfl
@[simp] theorem State.setEngine_engine (e : Engine) : (s.setEngine e).engine = e := rfl
@[simp] theorem State.setEngine_lastCol (e : Engine) : (s.setEngine e).lastCol = s.lastCol := rfl
@[simp] theorem State.setEngine_lastRow (e : Engine) : (s.setEngine e).lastRow = s.lastRow := rfl
@[simp] theorem State.setEngine_streamPending (e : Engine) : (s.setEngine e).streamPending = s.streamPending := rfl
@[simp] theorem State.setEngine_trace (e : Engine) : (s.setEngine e).trace = s.trace := rfl
@[simp] theorem State.setEngine_fault (e : Engine) : (s.setEngine e).fault = s.fault := rfl
@[simp] theorem State.setEngine_script (e : Engine) : (s.setEngine e).script = s.script := rfl
@[simp] theorem State.setEngine_enginePort (e : Engine) : (s.setEngine e).enginePort = s.enginePort := rfl
@[simp] theorem State.setEngine_bufferPort (e : Engine) : (s.setEngine e).bufferPort = s.bufferPort := rfl
@[simp] theorem State.setEngine_returned (e : Engine) : (s.setEngine e).returned = s.returned := rfl
@[simp] theorem State.setEngine_hosts (e : Engine) : (s.setEngine e).hosts = s.hosts := rfl
@[simp] theorem State.setEngine_caller (e : Engine) : (s.setEngine e).caller = s.caller := rfl
@[simp] theorem State.setEngine_schedule (e : Engine) : (s.setEngine e).schedule = s.schedule := rfl

@[simp] theorem State.setScript_mode (ops : List SubOp) : (s.setScript ops).mode = s.mode := rfl
@[simp] theorem State.setScript_level (ops : List SubOp) : (s.setScript ops).level = s.level := rfl
@[simp] theorem State.setScript_phase (ops : List SubOp) : (s.setScript ops).phase = s.phase := rfl
@[simp] theorem State.setScript_timerArmed (ops : List SubOp) : (s.setScript ops).timerArmed = s.timerArmed := rfl
@[simp] theorem State.setScript_refreshHz (ops : List SubOp) : (s.setScript ops).refreshHz = s.refreshHz := rfl
@[simp] theorem State.setScript_cfg (ops : List SubOp) : (s.setScript ops).cfg = s.cfg := rfl
@[simp] theorem State.setScript_buffer (ops : List SubOp) : (s.setScript ops).buffer = s.buffer := rfl
@[simp] theorem State.setScript_lock (ops : List SubOp) : (s.setScript ops).lock = s.lock := rfl
@[simp] theorem State.setScript_engine (ops : List SubOp) : (s.setScript ops).engine = s.engine := rfl
@[simp] theorem State.setScript_lastCol (ops : List SubOp) : (s.setScript ops).lastCol = s.lastCol := rfl
@[simp] theorem State.setScript_lastRow (ops : List SubOp) : (s.setScript ops).lastRow = s.lastRow := rfl
@[simp] theorem State.setScript_streamPending (ops : List SubOp) : (s.setScript ops).streamPending = s.streamPending := rfl
@[simp] theorem State.setScript_trace (ops : List SubOp) : (s.setScript ops).trace = s.trace := rfl
@[simp] theorem State.setScript_fault (ops : List SubOp) : (s.setScript ops).fault = s.fault := rfl
@[simp] theorem State.setScript_script (ops : List SubOp) : (s.setScript ops).script = ops := rfl
@[simp] theorem State.setScript_enginePort (ops : List SubOp) : (s.setScript ops).enginePort = s.enginePort := rfl
@[simp] theorem State.setScript_bufferPort (ops : List SubOp) : (s.setScript ops).bufferPort = s.bufferPort := rfl
@[simp] theorem State.setScript_returned (ops : List SubOp) : (s.setScript ops).returned = s.returned := rfl
@[simp] theorem State.setScript_hosts (ops : List SubOp) : (s.setScript ops).hosts = s.hosts := rfl
@[simp] theorem State.setScript_caller (ops : List SubOp) : (s.setScript ops).caller = s.caller := rfl
@[simp] theorem State.setScript_schedule (ops : List SubOp) : (s.setScript ops).schedule = s.schedule := rfl

@[simp] theorem State.reply_mode (r : Reply) : (s.reply r).mode = s.mode := rfl
@[simp] theorem State.reply_level (r : Reply) : (s.reply r).level = s.level := rfl
@[simp] theorem State.reply_phase (r : Reply) : (s.reply r).phase = s.phase := rfl
@[simp] theorem State.reply_timerArmed (r : Reply) : (s.reply r).timerArmed = s.timerArmed := rfl
@[simp] theorem State.reply_refreshHz (r : Reply) : (s.reply r).refreshHz = s.refreshHz := rfl
@[simp] theorem State.reply_cfg (r : Reply) : (s.reply r).cfg = s.cfg := rfl
@[simp] theorem State.reply_buffer (r : Reply) : (s.reply r).buffer = s.buffer := rfl
@[simp] theorem State.reply_lock (r : Reply) : (s.reply r).lock = s.lock := rfl
@[simp] theorem State.reply_engine (r : Reply) : (s.reply r).engine = s.engine := rfl
@[simp] theorem State.reply_lastCol (r : Reply) : (s.reply r).lastCol = s.lastCol := rfl
@[simp] theorem State.reply_lastRow (r : Reply) : (s.reply r).lastRow = s.lastRow := rfl
@[simp] theorem State.reply_streamPending (r : Reply) : (s.reply r).streamPending = s.streamPending := rfl
@[simp] theorem State.reply_trace (r : Reply) : (s.reply r).trace = s.trace := rfl
@[simp] theorem State.reply_fault (r : Reply) : (s.reply r).fault = s.fault := rfl
@[simp] theorem State.reply_script (r : Reply) : (s.reply r).script = s.script := rfl
@[simp] theorem State.reply_enginePort (r : Reply) : (s.reply r).enginePort = s.enginePort := rfl
@[simp] theorem State.reply_bufferPort (r : Reply) : (s.reply r).bufferPort = s.bufferPort := rfl
@[simp] theorem State.reply_returned (r : Reply) : (s.reply r).returned = s.returned ++ [r] := rfl
@[simp] theorem State.reply_hosts (r : Reply) : (s.reply r).hosts = s.hosts := rfl
@[simp] theorem State.reply_caller (r : Reply) : (s.reply r).caller = s.caller := rfl
@[simp] theorem State.reply_schedule (r : Reply) : (s.reply r).schedule = s.schedule := rfl

@[simp] theorem State.holdEngine_mode (i : Instr) : (s.holdEngine i).mode = s.mode := rfl
@[simp] theorem State.holdEngine_level (i : Instr) : (s.holdEngine i).level = s.level := rfl
@[simp] theorem State.holdEngine_phase (i : Instr) : (s.holdEngine i).phase = s.phase := rfl
@[simp] theorem State.holdEngine_timerArmed (i : Instr) : (s.holdEngine i).timerArmed = s.timerArmed := rfl
@[simp] theorem State.holdEngine_refreshHz (i : Instr) : (s.holdEngine i).refreshHz = s.refreshHz := rfl
@[simp] theorem State.holdEngine_cfg (i : Instr) : (s.holdEngine i).cfg = s.cfg := rfl
@[simp] theorem State.holdEngine_buffer (i : Instr) : (s.holdEngine i).buffer = s.buffer := rfl
@[simp] theorem State.holdEngine_lock (i : Instr) : (s.holdEngine i).lock = s.lock := rfl
@[simp] theorem State.holdEngine_engine (i : Instr) : (s.holdEngine i).engine = s.engine := rfl
@[simp] theorem State.holdEngine_lastCol (i : Instr) : (s.holdEngine i).lastCol = s.lastCol := rfl
@[simp] theorem State.holdEngine_lastRow (i : Instr) : (s.holdEngine i).lastRow = s.lastRow := rfl
@[simp] theorem State.holdEngine_streamPending (i : Instr) : (s.holdEngine i).streamPending = s.streamPending := rfl
@[simp] theorem State.holdEngine_trace (i : Instr) : (s.holdEngine i).trace = s.trace := rfl
@[simp] theorem State.holdEngine_fault (i : Instr) : (s.holdEngine i).fault = s.fault := rfl
@[simp] theorem State.holdEngine_script (i : Instr) : (s.holdEngine i).script = s.script := rfl
@[simp] theorem State.holdEngine_enginePort (i : Instr) : (s.holdEngine i).enginePort = s.enginePort ++ [{ agent := s.caller, request := i }] := rfl
@[simp] theorem State.holdEngine_bufferPort (i : Instr) : (s.holdEngine i).bufferPort = s.bufferPort := rfl
@[simp] theorem State.holdEngine_returned (i : Instr) : (s.holdEngine i).returned = s.returned := rfl
@[simp] theorem State.holdEngine_hosts (i : Instr) : (s.holdEngine i).hosts = s.hosts := rfl
@[simp] theorem State.holdEngine_caller (i : Instr) : (s.holdEngine i).caller = s.caller := rfl
@[simp] theorem State.holdEngine_schedule (i : Instr) : (s.holdEngine i).schedule = s.schedule := rfl

@[simp] theorem State.holdBuffer_mode (i : Instr) : (s.holdBuffer i).mode = s.mode := rfl
@[simp] theorem State.holdBuffer_level (i : Instr) : (s.holdBuffer i).level = s.level := rfl
@[simp] theorem State.holdBuffer_phase (i : Instr) : (s.holdBuffer i).phase = s.phase := rfl
@[simp] theorem State.holdBuffer_timerArmed (i : Instr) : (s.holdBuffer i).timerArmed = s.timerArmed := rfl
@[simp] theorem State.holdBuffer_refreshHz (i : Instr) : (s.holdBuffer i).refreshHz = s.refreshHz := rfl
@[simp] theorem State.holdBuffer_cfg (i : Instr) : (s.holdBuffer i).cfg = s.cfg := rfl
@[simp] theorem State.holdBuffer_buffer (i : Instr) : (s.holdBuffer i).buffer = s.buffer := rfl
@[simp] theorem State.holdBuffer_lock (i : Instr) : (s.holdBuffer i).lock = s.lock := rfl
@[simp] theorem State.holdBuffer_engine (i : Instr) : (s.holdBuffer i).engine = s.engine := rfl
@[simp] theorem State.holdBuffer_lastCol (i : Instr) : (s.holdBuffer i).lastCol = s.lastCol := rfl
@[simp] theorem State.holdBuffer_lastRow (i : Instr) : (s.holdBuffer i).lastRow = s.lastRow := rfl
@[simp] theorem State.holdBuffer_streamPending (i : Instr) : (s.holdBuffer i).streamPending = s.streamPending := rfl
@[simp] theorem State.holdBuffer_trace (i : Instr) : (s.holdBuffer i).trace = s.trace := rfl
@[simp] theorem State.holdBuffer_fault (i : Instr) : (s.holdBuffer i).fault = s.fault := rfl
@[simp] theorem State.holdBuffer_script (i : Instr) : (s.holdBuffer i).script = s.script := rfl
@[simp] theorem State.holdBuffer_enginePort (i : Instr) : (s.holdBuffer i).enginePort = s.enginePort := rfl
@[simp] theorem State.holdBuffer_bufferPort (i : Instr) : (s.holdBuffer i).bufferPort = s.bufferPort ++ [{ agent := s.caller, request := i }] := rfl
@[simp] theorem State.holdBuffer_returned (i : Instr) : (s.holdBuffer i).returned = s.returned := rfl
@[simp] theorem State.holdBuffer_hosts (i : Instr) : (s.holdBuffer i).hosts = s.hosts := rfl
@[simp] theorem State.holdBuffer_caller (i : Instr) : (s.holdBuffer i).caller = s.caller := rfl
@[simp] theorem State.holdBuffer_schedule (i : Instr) : (s.holdBuffer i).schedule = s.schedule := rfl

@[simp] theorem State.setCaller_mode (a : Agent) : (s.setCaller a).mode = s.mode := rfl
@[simp] theorem State.setCaller_level (a : Agent) : (s.setCaller a).level = s.level := rfl
@[simp] theorem State.setCaller_phase (a : Agent) : (s.setCaller a).phase = s.phase := rfl
@[simp] theorem State.setCaller_timerArmed (a : Agent) : (s.setCaller a).timerArmed = s.timerArmed := rfl
@[simp] theorem State.setCaller_refreshHz (a : Agent) : (s.setCaller a).refreshHz = s.refreshHz := rfl
@[simp] theorem State.setCaller_cfg (a : Agent) : (s.setCaller a).cfg = s.cfg := rfl
@[simp] theorem State.setCaller_buffer (a : Agent) : (s.setCaller a).buffer = s.buffer := rfl
@[simp] theorem State.setCaller_lock (a : Agent) : (s.setCaller a).lock = s.lock := rfl
@[simp] theorem State.setCaller_engine (a : Agent) : (s.setCaller a).engine = s.engine := rfl
@[simp] theorem State.setCaller_lastCol (a : Agent) : (s.setCaller a).lastCol = s.lastCol := rfl
@[simp] theorem State.setCaller_lastRow (a : Agent) : (s.setCaller a).lastRow = s.lastRow := rfl
@[simp] theorem State.setCaller_streamPending (a : Agent) : (s.setCaller a).streamPending = s.streamPending := rfl
@[simp] theorem State.setCaller_trace (a : Agent) : (s.setCaller a).trace = s.trace := rfl
@[simp] theorem State.setCaller_fault (a : Agent) : (s.setCaller a).fault = s.fault := rfl
@[simp] theorem State.setCaller_script (a : Agent) : (s.setCaller a).script = s.script := rfl
@[simp] theorem State.setCaller_enginePort (a : Agent) : (s.setCaller a).enginePort = s.enginePort := rfl
@[simp] theorem State.setCaller_bufferPort (a : Agent) : (s.setCaller a).bufferPort = s.bufferPort := rfl
@[simp] theorem State.setCaller_returned (a : Agent) : (s.setCaller a).returned = s.returned := rfl
@[simp] theorem State.setCaller_hosts (a : Agent) : (s.setCaller a).hosts = s.hosts := rfl
@[simp] theorem State.setCaller_caller (a : Agent) : (s.setCaller a).caller = a := rfl
@[simp] theorem State.setCaller_schedule (a : Agent) : (s.setCaller a).schedule = s.schedule := rfl

@[simp] theorem State.setHost_mode (k : Nat) (ops : List HostOp) : (s.setHost k ops).mode = s.mode := rfl
@[simp] theorem State.setHost_level (k : Nat) (ops : List HostOp) : (s.setHost k ops).level = s.level := rfl
@[simp] theorem State.setHost_phase (k : Nat) (ops : List HostOp) : (s.setHost k ops).phase = s.phase := rfl
@[simp] theorem State.setHost_timerArmed (k : Nat) (ops : List HostOp) : (s.setHost k ops).timerArmed = s.timerArmed := rfl
@[simp] theorem State.setHost_refreshHz (k : Nat) (ops : List HostOp) : (s.setHost k ops).refreshHz = s.refreshHz := rfl
@[simp] theorem State.setHost_cfg (k : Nat) (ops : List HostOp) : (s.setHost k ops).cfg = s.cfg := rfl
@[simp] theorem State.setHost_buffer (k : Nat) (ops : List HostOp) : (s.setHost k ops).buffer = s.buffer := rfl
@[simp] theorem State.setHost_lock (k : Nat) (ops : List HostOp) : (s.setHost k ops).lock = s.lock := rfl
@[simp] theorem State.setHost_engine (k : Nat) (ops : List HostOp) : (s.setHost k ops).engine = s.engine := rfl
@[simp] theorem State.setHost_lastCol (k : Nat) (ops : List HostOp) : (s.setHost k ops).lastCol = s.lastCol := rfl
@[simp] theorem State.setHost_lastRow (k : Nat) (ops : List HostOp) : (s.setHost k ops).lastRow = s.lastRow := rfl
@[simp] theorem State.setHost_streamPending (k : Nat) (ops : List HostOp) : (s.setHost k ops).streamPending = s.streamPending := rfl
@[simp] theorem State.setHost_trace (k : Nat) (ops : List HostOp) : (s.setHost k ops).trace = s.trace := rfl
@[simp] theorem State.setHost_fault (k : Nat) (ops : List HostOp) : (s.setHost k ops).fault = s.fault := rfl
@[simp] theorem State.setHost_script (k : Nat) (ops : List HostOp) : (s.setHost k ops).script = s.script := rfl
@[simp] theorem State.setHost_enginePort (k : Nat) (ops : List HostOp) : (s.setHost k ops).enginePort = s.enginePort := rfl
@[simp] theorem State.setHost_bufferPort (k : Nat) (ops : List HostOp) : (s.setHost k ops).bufferPort = s.bufferPort := rfl
@[simp] theorem State.setHost_returned (k : Nat) (ops : List HostOp) : (s.setHost k ops).returned = s.returned := rfl
@[simp] theorem State.setHost_hosts (k : Nat) (ops : List HostOp) : (s.setHost k ops).hosts = s.hosts.set k ops := rfl
@[simp] theorem State.setHost_caller (k : Nat) (ops : List HostOp) : (s.setHost k ops).caller = s.caller := rfl
@[simp] theorem State.setHost_schedule (k : Nat) (ops : List HostOp) : (s.setHost k ops).schedule = s.schedule := rfl

@[simp] theorem State.setSchedule_mode (ts : List Turn) : (s.setSchedule ts).mode = s.mode := rfl
@[simp] theorem State.setSchedule_level (ts : List Turn) : (s.setSchedule ts).level = s.level := rfl
@[simp] theorem State.setSchedule_phase (ts : List Turn) : (s.setSchedule ts).phase = s.phase := rfl
@[simp] theorem State.setSchedule_timerArmed (ts : List Turn) : (s.setSchedule ts).timerArmed = s.timerArmed := rfl
@[simp] theorem State.setSchedule_refreshHz (ts : List Turn) : (s.setSchedule ts).refreshHz = s.refreshHz := rfl
@[simp] theorem State.setSchedule_cfg (ts : List Turn) : (s.setSchedule ts).cfg = s.cfg := rfl
@[simp] theorem State.setSchedule_buffer (ts : List Turn) : (s.setSchedule ts).buffer = s.buffer := rfl
@[simp] theorem State.setSchedule_lock (ts : List Turn) : (s.setSchedule ts).lock = s.lock := rfl
@[simp] theorem State.setSchedule_engine (ts : List Turn) : (s.setSchedule ts).engine = s.engine := rfl
@[simp] theorem State.setSchedule_lastCol (ts : List Turn) : (s.setSchedule ts).lastCol = s.lastCol := rfl
@[simp] theorem State.setSchedule_lastRow (ts : List Turn) : (s.setSchedule ts).lastRow = s.lastRow := rfl
@[simp] theorem State.setSchedule_streamPending (ts : List Turn) : (s.setSchedule ts).streamPending = s.streamPending := rfl
@[simp] theorem State.setSchedule_trace (ts : List Turn) : (s.setSchedule ts).trace = s.trace := rfl
@[simp] theorem State.setSchedule_fault (ts : List Turn) : (s.setSchedule ts).fault = s.fault := rfl
@[simp] theorem State.setSchedule_script (ts : List Turn) : (s.setSchedule ts).script = s.script := rfl
@[simp] theorem State.setSchedule_enginePort (ts : List Turn) : (s.setSchedule ts).enginePort = s.enginePort := rfl
@[simp] theorem State.setSchedule_bufferPort (ts : List Turn) : (s.setSchedule ts).bufferPort = s.bufferPort := rfl
@[simp] theorem State.setSchedule_returned (ts : List Turn) : (s.setSchedule ts).returned = s.returned := rfl
@[simp] theorem State.setSchedule_hosts (ts : List Turn) : (s.setSchedule ts).hosts = s.hosts := rfl
@[simp] theorem State.setSchedule_caller (ts : List Turn) : (s.setSchedule ts).caller = s.caller := rfl
@[simp] theorem State.setSchedule_schedule (ts : List Turn) : (s.setSchedule ts).schedule = ts := rfl

@[simp] theorem State.unholdEngine_mode (n : Nat) : (s.unholdEngine n).mode = s.mode := rfl
@[simp] theorem State.unholdEngine_level (n : Nat) : (s.unholdEngine n).level = s.level := rfl
@[simp] theorem State.unholdEngine_phase (n : Nat) : (s.unholdEngine n).phase = s.phase := rfl
@[simp] theorem State.unholdEngine_timerArmed (n : Nat) : (s.unholdEngine n).timerArmed = s.timerArmed := rfl
@[simp] theorem State.unholdEngine_refreshHz (n : Nat) : (s.unholdEngine n).refreshHz = s.refreshHz := rfl
@[simp] theorem State.unholdEngine_cfg (n : Nat) : (s.unholdEngine n).cfg = s.cfg := rfl
@[simp] theorem State.unholdEngine_buffer (n : Nat) : (s.unholdEngine n).buffer = s.buffer := rfl
@[simp] theorem State.unholdEngine_lock (n : Nat) : (s.unholdEngine n).lock = s.lock := rfl
@[simp] theorem State.unholdEngine_engine (n : Nat) : (s.unholdEngine n).engine = s.engine := rfl
@[simp] theorem State.unholdEngine_lastCol (n : Nat) : (s.unholdEngine n).lastCol = s.lastCol := rfl
@[simp] theorem State.unholdEngine_lastRow (n : Nat) : (s.unholdEngine n).lastRow = s.lastRow := rfl
@[simp] theorem State.unholdEngine_streamPending (n : Nat) : (s.unholdEngine n).streamPending = s.streamPending := rfl
@[simp] theorem State.unholdEngine_trace (n : Nat) : (s.unholdEngine n).trace = s.trace := rfl
@[simp] theorem State.unholdEngine_fault (n : Nat) : (s.unholdEngine n).fault = s.fault := rfl
@[simp] theorem State.unholdEngine_script (n : Nat) : (s.unholdEngine n).script = s.script := rfl
@[simp] theorem State.unholdEngine_enginePort (n : Nat) : (s.unholdEngine n).enginePort = s.enginePort.eraseIdx n := rfl
@[simp] theorem State.unholdEngine_bufferPort (n : Nat) : (s.unholdEngine n).bufferPort = s.bufferPort := rfl
@[simp] theorem State.unholdEngine_returned (n : Nat) : (s.unholdEngine n).returned = s.returned := rfl
@[simp] theorem State.unholdEngine_hosts (n : Nat) : (s.unholdEngine n).hosts = s.hosts := rfl
@[simp] theorem State.unholdEngine_caller (n : Nat) : (s.unholdEngine n).caller = s.caller := rfl
@[simp] theorem State.unholdEngine_schedule (n : Nat) : (s.unholdEngine n).schedule = s.schedule := rfl

@[simp] theorem State.unholdBuffer_mode (n : Nat) : (s.unholdBuffer n).mode = s.mode := rfl
@[simp] theorem State.unholdBuffer_level (n : Nat) : (s.unholdBuffer n).level = s.level := rfl
@[simp] theorem State.unholdBuffer_phase (n : Nat) : (s.unholdBuffer n).phase = s.phase := rfl
@[simp] theorem State.unholdBuffer_timerArmed (n : Nat) : (s.unholdBuffer n).timerArmed = s.timerArmed := rfl
@[simp] theorem State.unholdBuffer_refreshHz (n : Nat) : (s.unholdBuffer n).refreshHz = s.refreshHz := rfl
@[simp] theorem State.unholdBuffer_cfg (n : Nat) : (s.unholdBuffer n).cfg = s.cfg := rfl
@[simp] theorem State.unholdBuffer_buffer (n : Nat) : (s.unholdBuffer n).buffer = s.buffer := rfl
@[simp] theorem State.unholdBuffer_lock (n : Nat) : (s.unholdBuffer n).lock = s.lock := rfl
@[simp] theorem State.unholdBuffer_engine (n : Nat) : (s.unholdBuffer n).engine = s.engine := rfl
@[simp] theorem State.unholdBuffer_lastCol (n : Nat) : (s.unholdBuffer n).lastCol = s.lastCol := rfl
@[simp] theorem State.unholdBuffer_lastRow (n : Nat) : (s.unholdBuffer n).lastRow = s.lastRow := rfl
@[simp] theorem State.unholdBuffer_streamPending (n : Nat) : (s.unholdBuffer n).streamPending = s.streamPending := rfl
@[simp] theorem State.unholdBuffer_trace (n : Nat) : (s.unholdBuffer n).trace = s.trace := rfl
@[simp] theorem State.unholdBuffer_fault (n : Nat) : (s.unholdBuffer n).fault = s.fault := rfl
@[simp] theorem State.unholdBuffer_script (n : Nat) : (s.unholdBuffer n).script = s.script := rfl
@[simp] theorem State.unholdBuffer_enginePort (n : Nat) : (s.unholdBuffer n).enginePort = s.enginePort := rfl
@[simp] theorem State.unholdBuffer_bufferPort (n : Nat) : (s.unholdBuffer n).bufferPort = s.bufferPort.eraseIdx n := rfl
@[simp] theorem State.unholdBuffer_returned (n : Nat) : (s.unholdBuffer n).returned = s.returned := rfl
@[simp] theorem State.unholdBuffer_hosts (n : Nat) : (s.unholdBuffer n).hosts = s.hosts := rfl
@[simp] theorem State.unholdBuffer_caller (n : Nat) : (s.unholdBuffer n).caller = s.caller := rfl
@[simp] theorem State.unholdBuffer_schedule (n : Nat) : (s.unholdBuffer n).schedule = s.schedule := rfl

@[simp] theorem State.sends_mode (ws : List BusWord) : (s.sends ws).mode = s.mode := rfl
@[simp] theorem State.sends_level (ws : List BusWord) : (s.sends ws).level = ws.foldl levelsAfterWord s.level := rfl
@[simp] theorem State.sends_phase (ws : List BusWord) : (s.sends ws).phase = s.phase := rfl
@[simp] theorem State.sends_timerArmed (ws : List BusWord) : (s.sends ws).timerArmed = s.timerArmed := rfl
@[simp] theorem State.sends_refreshHz (ws : List BusWord) : (s.sends ws).refreshHz = s.refreshHz := rfl
@[simp] theorem State.sends_cfg (ws : List BusWord) : (s.sends ws).cfg = s.cfg := rfl
@[simp] theorem State.sends_buffer (ws : List BusWord) : (s.sends ws).buffer = s.buffer := rfl
@[simp] theorem State.sends_lock (ws : List BusWord) : (s.sends ws).lock = s.lock := rfl
@[simp] theorem State.sends_engine (ws : List BusWord) : (s.sends ws).engine = s.engine := rfl
@[simp] theorem State.sends_lastCol (ws : List BusWord) : (s.sends ws).lastCol = s.lastCol := rfl
@[simp] theorem State.sends_lastRow (ws : List BusWord) : (s.sends ws).lastRow = s.lastRow := rfl
@[simp] theorem State.sends_streamPending (ws : List BusWord) : (s.sends ws).streamPending = s.streamPending := rfl
@[simp] theorem State.sends_trace (ws : List BusWord) : (s.sends ws).trace = s.trace ++ wordsEvents ws := rfl
@[simp] theorem State.sends_fault (ws : List BusWord) : (s.sends ws).fault = s.fault := rfl
@[simp] theorem State.sends_script (ws : List BusWord) : (s.sends ws).script = s.script := rfl
@[simp] theorem State.sends_enginePort (ws : List BusWord) : (s.sends ws).enginePort = s.enginePort := rfl
@[simp] theorem State.sends_bufferPort (ws : List BusWord) : (s.sends ws).bufferPort = s.bufferPort := rfl
@[simp] theorem State.sends_returned (ws : List BusWord) : (s.sends ws).returned = s.returned := rfl
@[simp] theorem State.sends_hosts (ws : List BusWord) : (s.sends ws).hosts = s.hosts := rfl
@[simp] theorem State.sends_caller (ws : List BusWord) : (s.sends ws).caller = s.caller := rfl
@[simp] theorem State.sends_schedule (ws : List BusWord) : (s.sends ws).schedule = s.schedule := rfl

end Sys2Proof.Machine
end

