-- ==== Sys2Proof/Laws/Script.lean ====
section
/-! SUPPORT. What a script can do, said once: scripts run in sequence, one bus write cycle, the cycles of a word list,
a frame, a window; and what no sub-step touches. -/

namespace Sys2Proof.Machine

open Sys2Proof

theorem runScript_nil (s : State) : runScript [] s = s := rfl

/-- A sub-step that raises no fault is followed by the rest. -/
theorem runScript_cons {op : SubOp} {ops : List SubOp} {s : State} (h : (runOp op s).fault = none) :
    runScript (op :: ops) s = runScript ops (runOp op s) := by
  simp [runScript, h]

/-- A script without a fault is followed by the rest. -/
theorem runScript_append {as bs : List SubOp} {s : State} (h : (runScript as s).fault = none) :
    runScript (as ++ bs) s = runScript bs (runScript as s) := by
  induction as generalizing s with
  | nil => rfl
  | cons op ops ih =>
    cases hf : (runOp op s).fault with
    | some f => simp [runScript, hf] at h
    | none =>
      rw [runScript_cons hf] at h
      rw [List.cons_append, runScript_cons hf, runScript_cons hf]
      exact ih h

/-- A script of one sub-step. -/
theorem runScript_single (op : SubOp) (s : State) : runScript [op] s = runOp op s := by
  simp [runScript]

/-- An assignment raises no fault (R258: only a precondition of a primitive does). -/
theorem runOp_fault {op : SubOp} (h : op.isEvent = false) (s : State) : (runOp op s).fault = s.fault := by
  cases op with
  | ret r => cases r <;> rfl
  | _ => first | rfl | cases h

/-- An assignment emits nothing. -/
theorem runOp_trace {op : SubOp} (h : op.isEvent = false) (s : State) : (runOp op s).trace = s.trace := by
  cases op with
  | ret r => cases r <;> rfl
  | _ => first | rfl | cases h

/-- An assignment is followed by the rest. -/
theorem runScript_assign {op : SubOp} (h : op.isEvent = false) {s : State} (hf : s.fault = none) (ops : List SubOp) :
    runScript (op :: ops) s = runScript ops (runOp op s) :=
  runScript_cons ((runOp_fault h s).trans hf)

/-- What one move runs and what it leaves are the script (R34). -/
theorem oneEvent_append_afterEvent (ops : List SubOp) : oneEvent ops ++ afterEvent ops = ops := by
  have h : leading ops ++ fromEvent ops = ops := List.takeWhile_append_dropWhile
  have h' : ∀ op rest, ridesWith op rest ++ leftAfter op rest = rest := by
    intro op rest
    unfold ridesWith leftAfter
    split
    · rfl
    · exact List.takeWhile_append_dropWhile
  unfold oneEvent afterEvent
  cases hf : fromEvent ops with
  | nil => rw [hf] at h; exact h
  | cons op rest =>
    rw [hf] at h
    show (leading ops ++ op :: ridesWith op rest) ++ leftAfter op rest = ops
    rw [List.append_assoc, List.cons_append, h' op rest]
    exact h

/-- A sub-step leaves the model's own fields but what it returns. -/
theorem runOp_frame (op : SubOp) (s : State) :
    (runOp op s).script = s.script ∧ (runOp op s).enginePort = s.enginePort ∧ (runOp op s).bufferPort = s.bufferPort
      ∧ (runOp op s).hosts = s.hosts ∧ (runOp op s).caller = s.caller ∧ (runOp op s).schedule = s.schedule := by
  cases op with
  | setLine l v => simp only [runOp, setLineOp]; split <;> exact ⟨rfl, rfl, rfl, rfl, rfl, rfl⟩
  | bus b => simp only [runOp, busOp]; split <;> exact ⟨rfl, rfl, rfl, rfl, rfl, rfl⟩
  | busPixel off =>
    simp only [runOp, busPixelOp, busOp]
    split
    · split <;> exact ⟨rfl, rfl, rfl, rfl, rfl, rfl⟩
    · exact ⟨rfl, rfl, rfl, rfl, rfl, rfl⟩
  | ret reply => cases reply <;> exact ⟨rfl, rfl, rfl, rfl, rfl, rfl⟩
  | setMode l => exact ⟨rfl, rfl, rfl, rfl, rfl, rfl⟩
  | delay ms => exact ⟨rfl, rfl, rfl, rfl, rfl, rfl⟩
  | allocate cfg => exact ⟨rfl, rfl, rfl, rfl, rfl, rfl⟩
  | release => exact ⟨rfl, rfl, rfl, rfl, rfl, rfl⟩
  | setPhase p => exact ⟨rfl, rfl, rfl, rfl, rfl, rfl⟩
  | setTimer v => exact ⟨rfl, rfl, rfl, rfl, rfl, rfl⟩
  | setRate hz => exact ⟨rfl, rfl, rfl, rfl, rfl, rfl⟩
  | setLock l => exact ⟨rfl, rfl, rfl, rfl, rfl, rfl⟩
  | setLastCol v => exact ⟨rfl, rfl, rfl, rfl, rfl, rfl⟩
  | setLastRow v => exact ⟨rfl, rfl, rfl, rfl, rfl, rfl⟩
  | setPending n => exact ⟨rfl, rfl, rfl, rfl, rfl, rfl⟩
  | decPending => exact ⟨rfl, rfl, rfl, rfl, rfl, rfl⟩

/-- A script leaves the model's own fields but what it returns. -/
theorem runScript_frame (ops : List SubOp) (s : State) :
    (runScript ops s).script = s.script ∧ (runScript ops s).enginePort = s.enginePort
      ∧ (runScript ops s).bufferPort = s.bufferPort ∧ (runScript ops s).hosts = s.hosts
      ∧ (runScript ops s).caller = s.caller ∧ (runScript ops s).schedule = s.schedule := by
  induction ops generalizing s with
  | nil => exact ⟨rfl, rfl, rfl, rfl, rfl, rfl⟩
  | cons op ops ih =>
    have h1 := runOp_frame op s
    simp only [runScript]
    split
    · exact h1
    · have h2 := ih (runOp op s)
      exact ⟨h2.1.trans h1.1, h2.2.1.trans h1.2.1, h2.2.2.1.trans h1.2.2.1, h2.2.2.2.1.trans h1.2.2.2.1,
        h2.2.2.2.2.1.trans h1.2.2.2.2.1, h2.2.2.2.2.2.trans h1.2.2.2.2.2⟩

/-- One bus write cycle on configured lines (R140, R141). -/
theorem runScript_cycle (dc : Bool) (b : Byte) (s : State) (hf : s.fault = none) (hm : s.linesUp) :
    runScript (cycle dc b) s = { s with
      level := ((s.level.set .dc (Level.ofBool dc)).driveByte b).set .wr .high
      trace := s.trace ++ [.level .dc dc, .byte b, .level .wr false, .level .wr true] } := by
  have hm' : s.mode = ByLine.const .output := hm
  simp [cycle, runScript, runOp, setLineOp, busOp, State.driveLine, State.driveBus, hm', hf, ByLine.set,
    ByLine.driveByte, Level.ofBool]

theorem isData_commandWord (b : Byte) : BusWord.isData (commandWord b) = false := by
  revert b; decide

theorem isData_dataBusWord (b : Byte) : BusWord.isData (dataBusWord b) = true := by
  revert b; decide

theorem byte_commandWord (b : Byte) : BusWord.byte (commandWord b) = b := by
  revert b; decide

theorem byte_dataBusWord (b : Byte) : BusWord.byte (dataBusWord b) = b := by
  revert b; decide

theorem emitWord_commandWord (b : Byte) : emitWord (commandWord b) = emitC b := by
  simp [emitWord, emitC, isData_commandWord, byte_commandWord]

theorem emitWord_dataBusWord (b : Byte) : emitWord (dataBusWord b) = emitD b := by
  simp [emitWord, emitD, isData_dataBusWord, byte_dataBusWord]

/-- One word's cycle, in the words of the statements. -/
theorem runScript_emitWord (w : BusWord) (s : State) (hf : s.fault = none) (hm : s.linesUp) :
    runScript (emitWord w) s = s.sends [w] := by
  rw [emitWord, runScript_cycle _ _ _ hf hm]
  simp [State.sends, levelsAfterWord, wordsEvents, wordEvents]

@[simp] theorem sends_nil (s : State) : s.sends [] = s := by simp [State.sends, wordsEvents]

theorem sends_append (s : State) (as bs : List BusWord) : (s.sends as).sends bs = s.sends (as ++ bs) := by
  simp [State.sends, wordsEvents, List.foldl_append, List.append_assoc]

@[simp] theorem sends_fault (s : State) (ws : List BusWord) : (s.sends ws).fault = s.fault := rfl

theorem sends_linesUp {s : State} {ws : List BusWord} (h : s.linesUp) : (s.sends ws).linesUp := h

/-- The cycles of a word list (R142). -/
theorem runScript_emitWords (ws : List BusWord) (s : State) (hf : s.fault = none) (hm : s.linesUp) :
    runScript (ws.flatMap emitWord) s = s.sends ws := by
  induction ws generalizing s with
  | nil => simp [runScript]
  | cons w ws ih =>
    have h1 := runScript_emitWord w s hf hm
    rw [List.flatMap_cons, runScript_append (by rw [h1]; exact hf), h1, ih (s.sends [w]) hf hm, sends_append]
    rfl

/-- The ghost effect of a frame, as a state (R156). -/
def afterGhost (cmd : Command) (s : State) : State :=
  match cmd with
  | .setColumnAddress a e => s.setLastCol (some (a, e))
  | .setRowAddress a e => s.setLastRow (some (a, e))
  | .reset | .sleepOut | .setPixelFormat _ | .memoryWrite | .displayOn => s

theorem afterGhost_fault (cmd : Command) (s : State) : (afterGhost cmd s).fault = s.fault := by
  cases cmd <;> rfl

theorem afterGhost_mode (cmd : Command) (s : State) : (afterGhost cmd s).mode = s.mode := by
  cases cmd <;> rfl

/-- A frame on configured lines: its words, then its ghost effect (R142, R156). -/
theorem runScript_emitFrame (cmd : Command) (s : State) (hf : s.fault = none) (hm : s.linesUp) :
    runScript (emitFrame cmd) s = afterGhost cmd (s.sends (encodeCommand cmd)) := by
  have h1 := runScript_emitWords (encodeCommand cmd) s hf hm
  rw [emitFrame, runScript_append (by rw [h1]; exact hf), h1]
  cases cmd <;> first | rfl | (rw [ghostUpdate, runScript_single]; rfl)

/-- Two frames, memory write and the count of payload bytes, in sequence. -/
theorem runScript_twoFrames (c1 c2 : Command) (n : Nat) (s : State) (hf : s.fault = none) (hm : s.linesUp) :
    runScript (emitFrame c1 ++ (emitFrame c2 ++ (emitFrame .memoryWrite ++ [.setPending n]))) s
      = ((afterGhost c2 ((afterGhost c1 (s.sends (encodeCommand c1))).sends (encodeCommand c2))).sends
          (encodeCommand .memoryWrite)).setPending n := by
  have f1 := runScript_emitFrame c1 s hf hm
  have e1 : (afterGhost c1 (s.sends (encodeCommand c1))).fault = none := (afterGhost_fault ..).trans hf
  have m1 : (afterGhost c1 (s.sends (encodeCommand c1))).linesUp := (afterGhost_mode ..).trans hm
  have f2 := runScript_emitFrame c2 _ e1 m1
  have e2 : (afterGhost c2 ((afterGhost c1 (s.sends (encodeCommand c1))).sends (encodeCommand c2))).fault = none :=
    (afterGhost_fault ..).trans e1
  have m2 : (afterGhost c2 ((afterGhost c1 (s.sends (encodeCommand c1))).sends (encodeCommand c2))).linesUp :=
    (afterGhost_mode ..).trans m1
  have f3 := runScript_emitFrame .memoryWrite _ e2 m2
  rw [runScript_append (by rw [f1]; exact e1), f1, runScript_append (by rw [f2]; exact e2), f2,
    runScript_append (by rw [f3]; exact e2), f3, runScript_single]
  rfl

/-- SET_WINDOW's script on configured lines: its words, the ghosts of its orientation, the payload owed (R174, R175). -/
theorem runScript_setWindow (c : Cfg) (r : Rect) (s : State) (hf : s.fault = none) (hm : s.linesUp) :
    runScript (setWindowScript c r) s
      = (((s.sends (windowWords c r)).setLastCol (some (columnBounds c r))).setLastRow
          (some (rowBounds c r))).setPending (2 * r.width * r.height) := by
  unfold setWindowScript windowWords columnBounds rowBounds
  cases c.orientation with
  | landscape =>
    simp only [windowCommands, List.flatMap_cons, List.flatMap_nil, List.append_nil, List.append_assoc]
    rw [runScript_twoFrames _ _ _ s hf hm]
    simp [afterGhost, State.sends, State.setLastCol, State.setLastRow, State.setPending, wordsEvents,
      List.foldl_append, List.flatMap_append]
  | portrait =>
    simp only [windowCommands, List.flatMap_cons, List.flatMap_nil, List.append_nil, List.append_assoc]
    rw [runScript_twoFrames _ _ _ s hf hm]
    simp [afterGhost, State.sends, State.setLastCol, State.setLastRow, State.setPending, wordsEvents,
      List.foldl_append, List.flatMap_append]

end Sys2Proof.Machine
end

