-- ==== Sys2Proof/Laws/Stream.lean ====
section
/-! SUPPORT. What a pixel stream does (spec/43_pixel_streamer.md R190): one pixel, a payload, and the whole stream of a
rectangle, from the buffer and in one colour. -/

namespace Sys2Proof.Machine

open Sys2Proof

theorem sends_setPending (s : State) (ws : List BusWord) (n : Nat) :
    (s.setPending n).sends ws = (s.sends ws).setPending n := rfl

theorem setPending_setPending (s : State) (m n : Nat) : (s.setPending m).setPending n = s.setPending n := rfl

theorem setPending_self (s : State) : s.setPending s.streamPending = s := rfl

/-- One data cycle of a known byte. -/
theorem runScript_emitD (b : Byte) (s : State) (hf : s.fault = none) (hm : s.linesUp) :
    runScript (emitD b) s = s.sends [dataBusWord b] := by
  rw [← emitWord_dataBusWord, runScript_emitWord _ _ hf hm]

/-- One command cycle. -/
theorem runScript_emitC (b : Byte) (s : State) (hf : s.fault = none) (hm : s.linesUp) :
    runScript (emitC b) s = s.sends [commandWord b] := by
  rw [← emitWord_commandWord, runScript_emitWord _ _ hf hm]

/-- One data cycle of a buffer byte (R192). -/
theorem runScript_emitDFrom (off : Nat) (b : Byte) (s : State) (hf : s.fault = none) (hm : s.linesUp)
    (hb : s.bufferByte off = some b) : runScript (emitDFrom off) s = s.sends [dataBusWord b] := by
  rw [← runScript_emitD b s hf hm]
  have hdc : runOp (.setLine .dc true) s = s.driveLine .dc true := by
    have hm' : s.mode = ByLine.const .output := hm
    simp [runOp, setLineOp, hm']
  have hd : (runOp (.setLine .dc true) s).fault = none := by rw [hdc]; exact hf
  have hp : runOp (.busPixel off) (s.driveLine .dc true) = runOp (.bus b) (s.driveLine .dc true) := by
    have hb' : (s.driveLine .dc true).bufferByte off = some b := hb
    simp [runOp, busPixelOp, hb']
  unfold emitDFrom emitD cycle
  rw [runScript_cons hd, runScript_cons hd, hdc]
  simp only [runScript, hp]

/-- One data cycle of a payload and one byte fewer owed (R190). -/
theorem runScript_payloadByte (script : List SubOp) (b : Byte) (s : State) (hf : s.fault = none)
    (h : runScript script s = s.sends [dataBusWord b]) :
    runScript (script ++ [.decPending]) s = (s.sends [dataBusWord b]).setPending (s.streamPending - 1) := by
  rw [runScript_append (by rw [h]; exact hf), h, runScript_single]
  rfl

/-- The two payload bytes of a pixel: those of the buffer or those of the colour. -/
def pixelBytes (c : Cfg) (m : Memory) (src : PixelSource) (p : Nat × Nat) : Byte × Byte :=
  match src with
  | .buffer => (m.read (c.pixOff p.1 p.2), m.read (c.pixOff p.1 p.2 + 1))
  | .color col => (lo8 col, hi8 col)

/-- The two payload words of a pixel. -/
def pixelWords (c : Cfg) (m : Memory) (src : PixelSource) (p : Nat × Nat) : List BusWord :=
  [dataBusWord (pixelBytes c m src p).1, dataBusWord (pixelBytes c m src p).2]

/-- What a transfer asks of the buffer: nothing for a colour, and both bytes of the pixel for a buffer transfer. -/
def pixelReadable (s : State) (m : Memory) (src : PixelSource) (p : Nat × Nat) : Prop :=
  src = .buffer → s.buffer = some m ∧ s.cfg.pixOff p.1 p.2 + 1 < s.cfg.bufSize

/-- One pixel of a stream (R190). -/
theorem runScript_pixel (m : Memory) (src : PixelSource) (p : Nat × Nat) (s : State) (hf : s.fault = none)
    (hm : s.linesUp) (hr : pixelReadable s m src p) :
    runScript (pixelScript s.cfg src p.1 p.2) s
      = (s.sends (pixelWords s.cfg m src p)).setPending (s.streamPending - 2) := by
  have two : ∀ (x y : List SubOp) (b0 b1 : Byte), runScript x s = s.sends [dataBusWord b0] →
      runScript y ((s.sends [dataBusWord b0]).setPending (s.streamPending - 1))
        = ((s.sends [dataBusWord b0]).setPending (s.streamPending - 1)).sends [dataBusWord b1] →
      runScript (x ++ [.decPending] ++ y ++ [.decPending]) s
        = (s.sends [dataBusWord b0, dataBusWord b1]).setPending (s.streamPending - 2) := by
    intro x y b0 b1 hx hy
    have h1 := runScript_payloadByte x b0 s hf hx
    have h2 := runScript_payloadByte y b1 ((s.sends [dataBusWord b0]).setPending (s.streamPending - 1)) hf hy
    rw [List.append_assoc (x ++ [SubOp.decPending]), runScript_append (by rw [h1]; exact hf), h1, h2,
      sends_setPending, setPending_setPending, sends_append]
    rfl
  cases src with
  | color col =>
    exact two _ _ _ _ (runScript_emitD _ s hf hm) (runScript_emitD _ _ hf hm)
  | buffer =>
    obtain ⟨hb, ho⟩ := hr rfl
    have b0 : s.bufferByte (s.cfg.pixOff p.1 p.2) = some (m.read (s.cfg.pixOff p.1 p.2)) := by
      simp [State.bufferByte, hb, show s.cfg.pixOff p.1 p.2 < s.cfg.bufSize by omega]
    have b1 : s.bufferByte (s.cfg.pixOff p.1 p.2 + 1) = some (m.read (s.cfg.pixOff p.1 p.2 + 1)) := by
      simp [State.bufferByte, hb, ho]
    exact two _ _ _ _ (runScript_emitDFrom _ _ s hf hm b0) (runScript_emitDFrom _ _ _ hf hm b1)

/-- The pixels of a payload, one after the other (R191). -/
theorem runScript_pixels (m : Memory) (src : PixelSource) (ps : List (Nat × Nat)) (s : State) (hf : s.fault = none)
    (hm : s.linesUp) (hr : ∀ p ∈ ps, pixelReadable s m src p) :
    runScript (ps.flatMap fun p => pixelScript s.cfg src p.1 p.2) s
      = (s.sends (ps.flatMap (pixelWords s.cfg m src))).setPending (s.streamPending - 2 * ps.length) := by
  induction ps generalizing s with
  | nil => simp [runScript, setPending_self]
  | cons p ps ih =>
    have h1 := runScript_pixel m src p s hf hm (hr p (by simp))
    have h2 := ih ((s.sends (pixelWords s.cfg m src p)).setPending (s.streamPending - 2)) hf hm
      (fun q hq => hr q (by simp [hq]))
    rw [List.flatMap_cons, runScript_append (by rw [h1]; exact hf), h1]
    refine h2.trans ?_
    rw [sends_setPending, setPending_setPending, sends_append, List.flatMap_cons, List.length_cons]
    simp only [State.setPending_streamPending, State.setPending_cfg, State.sends_cfg]
    congr 1
    omega

/-- How many pixels a rectangle has. -/
theorem Rect_pixels_length (r : Rect) : r.pixels.length = r.width * r.height := by
  simp [Rect.pixels, List.length_flatMap, Nat.mul_comm]

theorem mem_pixels {r : Rect} {p : Nat × Nat} (h : p ∈ r.pixels) :
    r.x ≤ p.1 ∧ p.1 < r.x + r.width ∧ r.y ≤ p.2 ∧ p.2 < r.y + r.height := by
  simp only [Rect.pixels, List.mem_flatMap, List.mem_map, List.mem_range'_1] at h
  obtain ⟨py, hy, px, hx, rfl⟩ := h
  exact ⟨hx.1, hx.2, hy.1, hy.2⟩

/-- Every pixel of a valid rectangle lies inside the buffer (R198). -/
theorem pixOff_in_buffer {c : Cfg} {r : Rect} (hv : r.validIn c = true) {p : Nat × Nat} (h : p ∈ r.pixels) :
    c.pixOff p.1 p.2 + 1 < c.bufSize := by
  simp only [Rect.validIn, Bool.and_eq_true, decide_eq_true_eq] at hv
  obtain ⟨_, hx, _, hy⟩ := mem_pixels h
  have h1 : p.2 * c.width + p.1 < c.height * c.width := by
    calc p.2 * c.width + p.1 < p.2 * c.width + c.width := by omega
      _ = (p.2 + 1) * c.width := by ring
      _ ≤ c.height * c.width := Nat.mul_le_mul_right _ (by omega)
  simp only [Cfg.pixOff, Cfg.bufSize, Config.bppBytes]
  rw [Nat.mul_comm c.width c.height]
  omega

/-- A whole stream on configured lines: the transfer's words, its window in the ghosts, nothing owed, the lock free
(R190). -/
theorem runScript_stream (m : Memory) (r : Rect) (src : PixelSource) (s : State) (hf : s.fault = none) (hm : s.linesUp)
    (hr : ∀ p ∈ r.pixels, pixelReadable s m src p) :
    runScript (streamScript s.cfg r src) s = s.transferred r (r.pixels.flatMap (pixelWords s.cfg m src)) := by
  have h0 : runScript [.setLock .heldByTransfer] s = s.setLock .heldByTransfer := runScript_single _ _
  have h1 := runScript_setWindow s.cfg r (s.setLock .heldByTransfer) hf hm
  generalize hw : ((((s.setLock .heldByTransfer).sends (windowWords s.cfg r)).setLastCol
    (some (columnBounds s.cfg r))).setLastRow (some (rowBounds s.cfg r))).setPending (2 * r.width * r.height) = w at h1
  have wf : w.fault = none := by rw [← hw]; exact hf
  have wm : w.linesUp := by rw [← hw]; exact hm
  have wc : w.cfg = s.cfg := by rw [← hw]; rfl
  have wp : w.streamPending = 2 * r.width * r.height := by rw [← hw]; rfl
  have h2 := runScript_pixels m src r.pixels w wf wm (by rw [← hw]; exact hr)
  have len : 2 * r.width * r.height - 2 * r.pixels.length = 0 := by
    rw [Rect_pixels_length, Nat.mul_assoc]; omega
  rw [wc, wp, len] at h2
  have h3 := runScript_emitC 0x29#8 ((w.sends (r.pixels.flatMap (pixelWords s.cfg m src))).setPending 0) wf wm
  unfold streamScript payloadScript
  rw [List.append_assoc, List.append_assoc, List.append_assoc, runScript_append (by rw [h0]; exact hf), h0,
    runScript_append (by rw [h1]; exact wf), h1, runScript_append (by rw [h2]; exact wf), h2,
    runScript_append (by rw [h3]; exact wf), h3, runScript_single, ← hw]
  simp only [runOp, State.transferred, transferWords, State.sends, State.setPending, State.setLastCol,
    State.setLastRow, State.setLock, wordsEvents, encodeCommand, List.flatMap_append, List.foldl_append,
    List.append_assoc]

end Sys2Proof.Machine
end

