-- ==== Sys2Proof/Laws/Trace.lean ====
section
/-! SUPPORT. Reading a trace in parts: the projection of a trace and of what is appended to it, and the frame it is in. -/

namespace Sys2Proof.Machine

open Sys2Proof

/-- The projection of a trace in two parts, the second read from where the first left off (R127). -/
theorem obsFrom_append (r : Reader) (es es' : List Event) :
    obsFrom r (es ++ es') = obsFrom r es ++ obsFrom (es.foldl Reader.next r) es' := by
  induction es generalizing r with
  | nil => rfl
  | cons e es ih => simp [obsFrom, ih, List.append_assoc]

theorem Obs.words_append (os os' : List Obs) : Obs.words (os ++ os') = Obs.words os ++ Obs.words os' := by
  induction os with
  | nil => rfl
  | cons o os ih => cases o <;> simp [Obs.words, ih]

/-- The words of a trace in two parts. -/
theorem busWords_append (es es' : List Event) :
    busWords (es ++ es') = busWords es ++ Obs.words (obsFrom (es.foldl Reader.next Reader.start) es') := by
  simp [busWords, obs, obsFrom_append, Obs.words_append]

/-- Data words count up in the frame they stand in (R91). -/
theorem foldl_frameAfter_data (opcode : Byte) (n : Nat) (ds : List BusWord) (h : ∀ d ∈ ds, BusWord.isData d = true) :
    ds.foldl frameAfter (some (opcode, n)) = some (opcode, n + ds.length) := by
  induction ds generalizing n with
  | nil => rfl
  | cons d ds ih =>
    have hd : BusWord.isData d = true := h d (List.mem_cons_self ..)
    rw [List.foldl_cons, show frameAfter (some (opcode, n)) d = some (opcode, n + 1) by simp [frameAfter, hd],
      ih (n + 1) (fun x hx => h x (List.mem_cons_of_mem _ hx)), List.length_cons]
    congr 2; omega

/-- Data words before any command word stand in no frame (R99). -/
theorem foldl_frameAfter_none (ds : List BusWord) (h : ∀ d ∈ ds, BusWord.isData d = true) :
    ds.foldl frameAfter none = none := by
  induction ds with
  | nil => rfl
  | cons d ds ih =>
    have hd : BusWord.isData d = true := h d (List.mem_cons_self ..)
    rw [List.foldl_cons, show frameAfter none d = none by simp [frameAfter, hd]]
    exact ih fun x hx => h x (List.mem_cons_of_mem _ hx)

end Sys2Proof.Machine
end

