-- ==== Sys2Proof/Machine/Text.lean ====
section
/-! DEFINITION. The textual syntax of requests and traces (spec/30_encoding.md R104, R105): one request a line, numbers
in decimal or `0x` hexadecimal. The fields of a configuration that an ATTACH line does not name come from a base
configuration (log 23). -/

namespace Sys2Proof.Machine

open Sys2Proof

/-! ### Reading -/

/-- The value of a digit in a base of at most 16. -/
def digitValue (base : Nat) (c : Char) : Option Nat :=
  let v : Option Nat :=
    if '0' ≤ c ∧ c ≤ '9' then some (c.toNat - '0'.toNat)
    else if 'a' ≤ c ∧ c ≤ 'f' then some (c.toNat - 'a'.toNat + 10)
    else if 'A' ≤ c ∧ c ≤ 'F' then some (c.toNat - 'A'.toNat + 10)
    else none
  match v with
  | some n => if n < base then some n else none
  | none => none

/-- The digits of a number, the value so far in `acc`. -/
def digitsFrom (base : Nat) : Nat → List Char → Option Nat
  | acc, [] => some acc
  | acc, c :: cs =>
    match digitValue base c with
    | some d => digitsFrom base (acc * base + d) cs
    | none => none

/-- A number: decimal, or hexadecimal after `0x` (R104). -/
def parseNumber : List Char → Option Nat
  | [] => none
  | '0' :: 'x' :: d :: ds => digitsFrom 16 0 (d :: ds)
  | cs => digitsFrom 10 0 cs

/-- A `u8` (R11). -/
def parseByte (t : List Char) : Option Byte :=
  match parseNumber t with
  | some n => if n < 256 then some (BitVec.ofNat 8 n) else none
  | none => none

/-- A `u16` (R11). -/
def parseU16 (t : List Char) : Option U16 :=
  match parseNumber t with
  | some n => if n < 65536 then some (BitVec.ofNat 16 n) else none
  | none => none

/-- The words of a line, the word being read in `word`; a square bracket is a word by itself. -/
def wordsFrom : List Char → List Char → List (List Char)
  | word, [] => if word.isEmpty then [] else [word.reverse]
  | word, c :: cs =>
    let before : List (List Char) := if word.isEmpty then [] else [word.reverse]
    if c = ' ' then before ++ wordsFrom [] cs
    else if c = '[' ∨ c = ']' then before ++ [c] :: wordsFrom [] cs
    else wordsFrom (c :: word) cs

/-- What follows a key such as `W=` in a word. -/
def afterKey (key : String) (t : List Char) : Option (List Char) :=
  if key.toList.isPrefixOf t then some (t.drop key.toList.length) else none

/-- The number after a key. -/
def keyNumber (key : String) (t : List Char) : Option Nat := (afterKey key t).bind parseNumber

/-- The orientation after `orient=`. -/
def keyOrientation (t : List Char) : Option Orientation :=
  match afterKey "orient=" t with
  | some v =>
    if v = "Landscape".toList then some .landscape
    else if v = "Portrait".toList then some .portrait
    else none
  | none => none

/-- The bytes of a HOST_WRITE up to the closing bracket, which ends the line. -/
def parseBytes : List (List Char) → Option (List Byte)
  | [] => none
  | [t] => if t = [']'] then some [] else none
  | t :: ts =>
    match parseByte t, parseBytes ts with
    | some b, some bs => some (b :: bs)
    | _, _ => none

/-- The commands of a SEND line; `SEND MemoryWrite` parses, and is refused at the port (R103, R104). -/
def parseCommand : List (List Char) → Option Command
  | [name] =>
    if name = "Reset".toList then some .reset
    else if name = "SleepOut".toList then some .sleepOut
    else if name = "DisplayOn".toList then some .displayOn
    else if name = "MemoryWrite".toList then some .memoryWrite
    else none
  | [name, a] =>
    if name = "SetPixelFormat".toList then (parseByte a).map .setPixelFormat else none
  | [name, a, b] =>
    match parseU16 a, parseU16 b with
    | some s, some e =>
      if name = "SetColumnAddress".toList then some (.setColumnAddress s e)
      else if name = "SetRowAddress".toList then some (.setRowAddress s e)
      else none
    | _, _ => none
  | _ => none

/-- A rectangle's four numbers. -/
def parseRect (x y w h : List Char) : Option Rect :=
  match parseNumber x, parseNumber y, parseNumber w, parseNumber h with
  | some x, some y, some w, some h => some { x := x, y := y, width := w, height := h }
  | _, _, _, _ => none

/-- The operands of a request line, after its name (R104). -/
def parseOperands (base : Cfg) (name : List Char) (args : List (List Char)) : Option Instr :=
  if name = "SEND".toList then (parseCommand args).map .sendCommand
  else match args with
    | [] =>
      if name = "DETACH".toList then some .detach
      else if name = "HARD_RESET".toList then some .hardReset
      else if name = "INIT_PANEL".toList then some .initPanel
      else if name = "TRANSFER_FULL_FRAME".toList then some .transferFullFrame
      else if name = "REFRESH_TICK".toList then some .refreshTick
      else none
    | a :: rest =>
      if name = "HOST_WRITE".toList then
        match parseNumber a, rest with
        | some off, bracket :: bytes =>
          if bracket = ['['] then (parseBytes bytes).map (.hostWrite off) else none
        | _, _ => none
      else if name = "ATTACH".toList then
        match keyNumber "W=" a, rest with
        | some w, [h, o, hz] =>
          match keyNumber "H=" h, keyOrientation o, keyNumber "hz=" hz with
          | some h, some o, some hz =>
            some (.attach { base with width := w, height := h, orientation := o, refreshHzDefault := hz })
          | _, _, _ => none
        | _, _ => none
      else match rest with
        | [] => if name = "SET_REFRESH_RATE".toList then (parseNumber a).map .setRefreshRate else none
        | [b] =>
          match parseNumber a, parseNumber b with
          | some off, some len => if name = "HOST_READ".toList then some (.hostRead off len) else none
          | _, _ => none
        | [b, c, d] => if name = "TRANSFER_REGION".toList then (parseRect a b c d).map .transferRegion else none
        | [b, c, d, e] =>
          match parseRect a b c d, parseU16 e with
          | some r, some col => if name = "FILL_REGION".toList then some (.fillRegion r col) else none
          | _, _ => none
        | _ => none

/-- One request line (R104). -/
def parseLine (base : Cfg) (line : String) : Option Instr :=
  match wordsFrom [] line.toList with
  | [] => none
  | name :: args => parseOperands base name args

/-! ### Writing a trace (R105) -/

/-- A line's short name (R22). -/
def Line.name : Line → String
  | .d0 => "D0"
  | .d1 => "D1"
  | .d2 => "D2"
  | .d3 => "D3"
  | .d4 => "D4"
  | .d5 => "D5"
  | .d6 => "D6"
  | .d7 => "D7"
  | .dc => "DC"
  | .cs => "CS"
  | .rd => "RD"
  | .wr => "WR"
  | .rst => "RST"

/-- A hexadecimal digit. -/
def hexDigit (n : Nat) : Char := "0123456789ABCDEF".toList.getD n '0'

/-- A byte as two hexadecimal digits. -/
def hexByte (b : Byte) : String := String.ofList [hexDigit (b.toNat / 16), hexDigit (b.toNat % 16)]

/-- A level as 0 or 1. -/
def bitName (v : Bool) : String := if v then "1" else "0"

/-- An event as R105 writes it. -/
def Event.text : Event → String
  | .mode l => "Mode(" ++ Line.name l ++ ",Output)"
  | .level l v => "Level(" ++ Line.name l ++ "," ++ bitName v ++ ")"
  | .byte b => "Byte(0x" ++ hexByte b ++ ")"
  | .delay ms => "Delay(>=" ++ toString ms ++ "ms)"

/-- An item of the projection as R15 and R105 write it. -/
def Obs.text : Obs → String
  | .word w => (if BusWord.isData w then "D(" else "C(") ++ hexByte (BusWord.byte w) ++ ")"
  | .rst v => "RST=" ++ bitName v
  | .delay ms => "Delay(>=" ++ toString ms ++ "ms)"

end Sys2Proof.Machine
end

