-- ==== Sys2Proof/Tests/Slice0.lean ====
section
/-! SUPPORT. Small tests. Every expected value is from the spec (the vector or rule named in the comment) or counted by
hand from it. The last part shows, for each statement with hypotheses, a state and operands that meet them. -/

namespace Sys2Proof.Tests

open Sys2Proof Sys2Proof.Machine

/-! ### States -/

/-- This hardware, with a rate limit above the default. -/
def hw : Cfg := { Config.thisHardware with maxRefreshHz := 60 }

/-- A 2 by 2 surface: eight buffer bytes. -/
def small : Cfg := { hw with width := 2, height := 2 }

/-- The idle levels (R24). -/
def idleLevels : ByLine Level :=
  { d0 := .low, d1 := .low, d2 := .low, d3 := .low, d4 := .low, d5 := .low, d6 := .low, d7 := .low,
    dc := .high, cs := .low, rd := .high, wr := .high, rst := .high }

/-- An attached instance (R43), without its trace. -/
def attached (c : Cfg) : State :=
  { State.reset with
    cfg := c, buffer := some [], phase := .configured, mode := ByLine.const .output, level := idleLevels }

/-- An initialized instance. -/
def booted (c : Cfg) : State := { attached c with phase := .initialized, timerArmed := true }

/-- The next state, if there is one. -/
def next? : Host.Outcome State Fault Refusal → Option State
  | .next s => some s
  | .fault _ => none
  | .refused _ => none

/-- The refusal, if it is one. -/
def refusal? : Host.Outcome State Fault Refusal → Option Refusal
  | .refused r => some r
  | .next _ => none
  | .fault _ => none

/-- The bus words an instruction adds to an empty trace. -/
def wordsOf (i : Instr) (s : State) : Option (List BusWord) := (next? (exec i s)).map fun t => busWords t.trace

/-- The results an instruction returns. -/
def resultsOf (i : Instr) (s : State) : Option (List Result) :=
  (next? (exec i s)).map fun t => t.returned.map fun r => r.result

/-! ### Well-formedness: each check refuses an ill-formed term (R9, R103, R260) -/

theorem test_wf_hw : (Instr.attach hw).wellFormed = true := by decide
theorem test_wf_width_low : (Instr.attach { hw with width := 0 }).wellFormed = false := by decide
theorem test_wf_width_high : (Instr.attach { hw with width := 65536 }).wellFormed = false := by decide
theorem test_wf_height_low : (Instr.attach { hw with height := 0 }).wellFormed = false := by decide
theorem test_wf_height_high : (Instr.attach { hw with height := 65536 }).wellFormed = false := by decide
theorem test_wf_rate_zero : (Instr.attach { hw with refreshHzDefault := 0 }).wellFormed = false := by decide
theorem test_wf_rate_above_max : (Instr.attach { hw with refreshHzDefault := 61 }).wellFormed = false := by decide
theorem test_wf_memory_write : (Instr.sendCommand .memoryWrite).wellFormed = false := by decide
theorem test_wf_blit_length : (HostOp.blit ⟨0, 0, 1, 1⟩ [0x00#8]).wellFormed = false := by decide

/-! ### Decoding: each row's word, written out from its `encoding` in the opcode table -/

theorem test_decode_reset : decodeFrame [0b000000001#9] = .ok (.cmdReset, []) := by decide
theorem test_decode_sleep_out : decodeFrame [0b000010001#9] = .ok (.cmdSleepOut, []) := by decide
theorem test_decode_display_on : decodeFrame [0b000101001#9] = .ok (.cmdDisplayOn, []) := by decide
/-- L1.8: column address set 0..240. -/
theorem test_decode_column :
    decodeFrame [0b000101010#9, 0x100#9, 0x100#9, 0x100#9, 0x1F0#9] = .ok (.cmdColumnAddressSet 0#16 240#16, []) := by
  decide
/-- L1.8: row address set 0..400. -/
theorem test_decode_row :
    decodeFrame [0b000101011#9, 0x100#9, 0x100#9, 0x101#9, 0x190#9] = .ok (.cmdRowAddressSet 0#16 400#16, []) := by
  decide
theorem test_decode_memory_write : decodeFrame [0b000101100#9] = .ok (.cmdMemoryWrite, []) := by decide
theorem test_decode_pixel_format : decodeFrame [0b000111010#9, 0x155#9] = .ok (.cmdPixelFormat 0x55#8, []) := by decide
theorem test_decode_data : decodeFrame [0b111111000#9] = .ok (.dataWord 0xF8#8, []) := by decide
/-- R92: a frame cut short, or cut by a command word, is no frame. -/
theorem test_decode_cut_short :
    decodeFrame [0x02A#9, 0x100#9, 0x100#9, 0x100#9] = .error (.missingArgument 0x2A#8)
      ∧ decodeFrame [0x03A#9, 0x029#9] = .error (.missingArgument 0x3A#8) := by decide
/-- R100. -/
theorem test_decode_reserved : decodeFrame [0x010#9] = .error (.reservedOpcode 0x10#8) := by decide
/-- R99, R102: a data word in a stream stands in a memory-write frame or among a frame's arguments. -/
theorem test_decode_stream :
    decodeStream 4 false [0x02C#9, 0x1F8#9, 0x03A#9, 0x155#9]
        = .ok [.cmdMemoryWrite, .dataWord 0xF8#8, .cmdPixelFormat 0x55#8]
      ∧ decodeStream 1 false [0x1F8#9] = .error (.dataOutsideFrame 0xF8#8)
      ∧ decodeStream 2 false [0x029#9, 0x1F8#9] = .error (.dataOutsideFrame 0xF8#8) := by decide
/-- V5: the corners of the argument range. -/
theorem test_encode_corners :
    encodeCommand (.setColumnAddress 0x0100#16 0xFFFF#16) = [0x02A#9, 0x101#9, 0x100#9, 0x1FF#9, 0x1FF#9]
      ∧ encodeCommand (.setColumnAddress 10#16 5#16) = [0x02A#9, 0x100#9, 0x10A#9, 0x100#9, 0x105#9] := by decide
/-- The table's rows, one after the other, as the host numbers them. -/
theorem test_table_words :
    [0x01, 0x11, 0x29, 0x2A, 0x2B, 0x2C, 0x3A, 0x1A5].map (decodeTableWord 16)
      = [some .cmdReset, some .cmdSleepOut, some .cmdDisplayOn, some (.cmdColumnAddressSet 0#16 0#16),
         some (.cmdRowAddressSet 0#16 0#16), some .cmdMemoryWrite, some (.cmdPixelFormat 0x00#8),
         some (.dataWord 0xA5#8)] := by decide
/-- R90: a bus word has 9 bits; R100: a reserved opcode is none. -/
theorem test_table_words_refused : decodeTableWord 16 0x201 = none ∧ decodeTableWord 16 0x02 = none := by decide

/-! ### Bus Line Controller -/

/-- V1: 26 events whose projection is `RST=1`. -/
theorem test_configure_outputs :
    (next? (exec .configureOutputs State.reset)).map (fun t => (t.trace.length, obs t.trace, t.level))
      = some (26, [.rst true], idleLevels) := by decide
/-- V2. -/
theorem test_parallel_byte :
    (next? (exec (.writeParallelByte 0xA5#8) (booted hw))).map
        (fun t => (Line.all.take 8).map fun l => t.level.get l)
      = some [.high, .low, .high, .low, .low, .high, .low, .high] := by decide
/-- R122: before CONFIGURE_OUTPUTS the fault, and no event. -/
theorem test_set_line_unset :
    (next? (exec (.setLine .wr false) State.reset)).map (fun t => (t.fault, t.trace))
      = some (some (.precondition (.setLineUnset .wr)), []) := by decide
/-- V3. -/
theorem test_cycle_definition :
    obs [.level .d0 false, .level .d1 false, .level .d2 false, .level .d3 false, .level .d4 false, .level .d5 false,
         .level .d6 false, .level .d7 false, .level .dc true, .byte 0x00#8, .level .wr false, .level .wr true,
         .level .wr true] = [.word 0x100#9] := by decide

/-! ### Panel Protocol Engine -/

/-- V4. -/
theorem test_write_command :
    (next? (exec (.writeCommand 0x2A#8) (booted hw))).map State.trace
      = some [.level .dc false, .byte 0x2A#8, .level .wr false, .level .wr true] := by decide
/-- V4. -/
theorem test_write_data :
    (next? (exec (.writeData 0xF8#8) (booted hw))).map State.trace
      = some [.level .dc true, .byte 0xF8#8, .level .wr false, .level .wr true] := by decide
/-- V6, first row. -/
theorem test_send_reset :
    (next? (exec (.sendCommand .reset) { booted hw with lastCol := some (1#16, 2#16) })).map
        (fun t => (obs t.trace, t.phase, t.lastCol, t.timerArmed))
      = some ([.word 0x001#9, .delay 120], .configured, none, true) := by decide
/-- V6, fifth row. -/
theorem test_send_column :
    (next? (exec (.sendCommand (.setColumnAddress 3#16 9#16)) (booted hw))).map (fun t => (obs t.trace, t.lastCol))
      = some ([0x02A#9, 0x100#9, 0x103#9, 0x100#9, 0x109#9].map Obs.word, some (3#16, 9#16)) := by decide
/-- L1.4. -/
theorem test_hard_reset :
    (next? (exec .hardReset (booted hw))).map (fun t => (obs t.trace, t.phase))
      = some ([.rst false, .delay 120, .rst true, .delay 120], .configured) := by decide
/-- V7: straight after ATTACH, with no HARD_RESET. -/
theorem test_init_panel :
    (next? (exec .initPanel (attached hw))).map
        (fun t => (obs t.trace, t.trace.length, t.phase, t.timerArmed, t.level.databus))
      = some ([.word 0x001#9, .delay 120, .word 0x011#9, .delay 120, .word 0x03A#9, .word 0x155#9, .word 0x029#9],
          22, .initialized, true, some 0x29#8) := by decide
/-- R38: after a memory write, a payload word is one byte fewer owed. -/
theorem test_data_word :
    (next? (exec (.dataWord 0x12#8) { booted hw with trace := wordEvents 0x02C#9, streamPending := 4 })).map
        (fun t => (t.trace.length, t.streamPending)) = some (8, 3) := by decide +kernel
/-- R99: no data word without a frame that has a place for it; just after ATTACH, and after `0x3A` and its one
argument. -/
theorem test_data_word_outside :
    refusal? (step ((attached hw).setSchedule [.frame [0x1F8#9]])) = some (.dataOutsideFrame 0xF8#8)
      ∧ refusal? (exec (.dataWord 0x12#8) { booted hw with trace := wordsEvents [0x03A#9, 0x155#9] })
        = some (.dataOutsideFrame 0x12#8) := by decide +kernel
/-- R153. -/
theorem test_delay : (next? (exec (.delay 120) (booted hw))).map State.trace = some [.delay 120] := by decide

/-! ### Addressing-Window Translator -/

/-- V8. -/
theorem test_valid :
    ([⟨0, 0, 240, 400⟩, ⟨239, 399, 1, 1⟩, ⟨1, 0, 240, 1⟩, ⟨0, 399, 1, 2⟩, ⟨65535, 0, 1, 1⟩, ⟨240, 0, 0, 5⟩,
      ⟨241, 0, 0, 0⟩, ⟨0, 0, 0, 0⟩] : List Rect).map (fun r => r.validIn hw)
      = [true, true, false, false, false, true, false, true] := by decide
/-- V9, Landscape. -/
theorem test_window_landscape :
    wordsOf (.setWindow ⟨200, 300, 40, 100⟩) (attached hw)
      = some [0x02A#9, 0x100#9, 0x1C8#9, 0x100#9, 0x1F0#9, 0x02B#9, 0x101#9, 0x12C#9, 0x101#9, 0x190#9, 0x02C#9] := by
  decide
/-- V9, Portrait. -/
theorem test_window_portrait :
    wordsOf (.setWindow ⟨200, 300, 40, 100⟩) (attached { hw with orientation := .portrait })
      = some [0x02B#9, 0x100#9, 0x1C8#9, 0x100#9, 0x1F0#9, 0x02A#9, 0x101#9, 0x12C#9, 0x101#9, 0x190#9, 0x02C#9] := by
  decide

/-! ### Pixel Buffer Transfer -/

/-- L1.2: the fill of DOC §8, 32 words and 128 events. -/
theorem test_fill_red :
    (next? (exec (.fillRegion ⟨0, 0, 10, 1⟩ 0xF800#16) (booted hw))).map (fun t => (busWords t.trace, t.trace.length))
      = some ([0x02A#9, 0x100#9, 0x100#9, 0x100#9, 0x10A#9, 0x02B#9, 0x100#9, 0x100#9, 0x100#9, 0x101#9, 0x02C#9,
          0x100#9, 0x1F8#9, 0x100#9, 0x1F8#9, 0x100#9, 0x1F8#9, 0x100#9, 0x1F8#9, 0x100#9, 0x1F8#9,
          0x100#9, 0x1F8#9, 0x100#9, 0x1F8#9, 0x100#9, 0x1F8#9, 0x100#9, 0x1F8#9, 0x100#9, 0x1F8#9, 0x029#9],
          128) := by decide +kernel
/-- V14, Portrait: row-major in both orientations. -/
theorem test_transfer_region :
    wordsOf (.transferRegion ⟨1, 1, 2, 2⟩)
        { booted { hw with orientation := .portrait } with
          buffer := some [(482, 0xA0#8), (483, 0xA1#8), (484, 0xA2#8), (485, 0xA3#8),
                          (962, 0xB0#8), (963, 0xB1#8), (964, 0xB2#8), (965, 0xB3#8)] }
      = some [0x02B#9, 0x100#9, 0x101#9, 0x100#9, 0x103#9, 0x02A#9, 0x100#9, 0x101#9, 0x100#9, 0x103#9, 0x02C#9,
          0x1A0#9, 0x1A1#9, 0x1A2#9, 0x1A3#9, 0x1B0#9, 0x1B1#9, 0x1B2#9, 0x1B3#9, 0x029#9] := by decide +kernel
/-- V11: a zero-area rectangle: window words, no payload, display-on. -/
theorem test_zero_area :
    wordsOf (.transferRegion ⟨240, 0, 0, 5⟩) (booted hw)
      = some [0x02A#9, 0x100#9, 0x1F0#9, 0x100#9, 0x1F0#9, 0x02B#9, 0x100#9, 0x100#9, 0x100#9, 0x105#9, 0x02C#9,
          0x029#9] := by decide +kernel
/-- R194, on a surface of 2 by 2: every buffer byte once, in offset order. -/
theorem test_full_frame :
    (wordsOf .transferFullFrame { booted small with buffer := some [(0, 0x01#8), (3, 0x02#8), (6, 0x03#8)] }).map
        (fun ws => ws.drop 11)
      = some [0x101#9, 0x100#9, 0x100#9, 0x102#9, 0x100#9, 0x100#9, 0x103#9, 0x100#9, 0x029#9] := by decide +kernel
/-- R230: the tick returns nothing to anyone. -/
theorem test_refresh_tick :
    (next? (exec .refreshTick (booted small))).map (fun t => (t.returned, t.trace.length, t.lock, t.streamPending))
      = some ([], 80, .free, 0) := by decide +kernel

/-! ### Host surface boundary -/

/-- V1 and R221: the state after ATTACH. -/
theorem test_attach :
    (next? (exec (.attach hw) State.reset)).map (fun t => (obs t.trace, t.phase, t.refreshHz))
        = some ([.rst true], .configured, 25)
      ∧ (next? (exec (.attach hw) State.reset)).map State.buffer = some (some []) := by decide +kernel
/-- V19, eighth and ninth rows. -/
theorem test_attach_fails :
    [resultsOf (.attach { hw with allocOk := false }) State.reset,
     resultsOf (.attach { hw with gpioMapOk := false }) State.reset]
      = [some [.status .initFailed], some [.status .initFailed]] := by decide
/-- R222. -/
theorem test_detach :
    (next? (exec .detach (booted hw))).map (fun t => (t.phase, t.timerArmed, t.mode))
        = some (.detached, false, ByLine.const .unset)
      ∧ (next? (exec .detach (booted hw))).map State.buffer = some none := by decide +kernel
/-- V16, the reads. -/
theorem test_host_read :
    [resultsOf (.hostRead 191998 4) (attached hw), resultsOf (.hostRead 192000 0) (attached hw),
     resultsOf (.hostRead 5 0) (attached hw)]
      = [some [.read .sizeMismatch [0x00#8, 0x00#8]], some [.read .outOfRange []], some [.read .ok []]] := by
  decide +kernel
/-- V16, the writes. -/
theorem test_host_write :
    [(next? (exec (.hostWrite 191999 [0xAA#8, 0xBB#8]) (attached hw))).map
        (fun t => (t.buffer, t.returned.map fun r => r.result)),
     (next? (exec (.hostWrite 3 [0x01#8, 0x02#8]) (attached hw))).map
        (fun t => (t.buffer, t.returned.map fun r => r.result))]
      = [some (some [(191999, 0xAA#8)], [.written .sizeMismatch 1]),
         some (some [(3, 0x01#8), (4, 0x02#8)], [.written .ok 2])] := by decide +kernel
/-- Writing the blank removes the cell: equal contents are equal buffers. -/
theorem test_memory_canonical : Memory.write [(3, 0x01#8), (4, 0x02#8)] 3 0x00#8 = [(4, 0x02#8)] := by decide
/-- V18. -/
theorem test_refresh_rate :
    [(next? (exec (.setRefreshRate 0) (booted hw))).map (fun t => (t.refreshHz, t.returned.map fun r => r.result)),
     (next? (exec (.setRefreshRate 30) (booted hw))).map (fun t => (t.refreshHz, t.returned.map fun r => r.result))]
      = [some (25, [.status .invalidArgument]), some (30, [.status .ok])] := by decide
/-- V19: phase before argument. -/
theorem test_priority :
    (next? (exec (.transferRegion ⟨1, 0, 240, 1⟩) (attached hw))).map State.fault
      = some (some (.notInitialized (.transferRegion ⟨1, 0, 240, 1⟩) .phaseIsConfigured)) := by decide
/-- R251: the codes. -/
theorem test_status_codes :
    [Status.ok, .initFailed, .invalidArgument, .outOfRange, .sizeMismatch].map Status.code = [0, 1, 2, 3, 4] := by
  decide
/-- R228 with R98 and R103: what the port refuses. -/
theorem test_port_refusals :
    refusal? (exec (.attach { hw with width := 0 }) State.reset) = some .badCfg
      ∧ refusal? (exec (.sendCommand .memoryWrite) State.reset) = some .memWriteWithoutWindow
      ∧ refusal? (presentOp .whole 0 (.blit ⟨0, 0, 1, 1⟩ []) [] (booted hw)) = some .blitLength
      ∧ refusal? (presentOp .whole 0 (.request .configureOutputs) [] (booted hw))
          = some (.notAcceptedAtPort .configureOutputs) := by decide

/-! ### Text (R104, R105) -/

theorem test_parse_fill :
    parseLine hw "FILL_REGION 0 0 10 1 0xF800" = some (.fillRegion ⟨0, 0, 10, 1⟩ 0xF800#16) := by decide +kernel
theorem test_parse_write :
    parseLine hw "HOST_WRITE 482 [0xA0 161]" = some (.hostWrite 482 [0xA0#8, 0xA1#8]) := by decide +kernel
theorem test_parse_attach :
    parseLine hw "ATTACH W=2 H=2 orient=Landscape hz=25" = some (.attach small) := by decide +kernel
theorem test_event_text : Event.text (.level .wr false) = "Level(WR,0)" := by decide +kernel

/-! ### Steps -/

/-- A host's state in the middle of a transfer it began: one event emitted. -/
def midTransfer : State :=
  engineMove (beginScript (streamScript small ⟨0, 0, 1, 1⟩ .buffer ++ [.ret none]) (booted small))

/-- R36, R33: the engine is Busy and the lock held in the middle of a transfer, and one event has been emitted. -/
theorem test_mid_transfer :
    (midTransfer.engine, midTransfer.lock, midTransfer.trace) = (.busy, .heldByTransfer, [.level .dc false]) := by
  decide +kernel
/-- V17: a HOST_WRITE presented in the middle of a transfer is held. -/
theorem test_write_held :
    (next? (exec (.hostWrite 0 [0x01#8]) midTransfer)).map (fun t => (t.buffer, t.bufferPort.length))
      = some (some [], 1) := by decide +kernel
/-- R74: a HOST_READ steps in the middle of a transfer. -/
theorem test_read_in_transfer : resultsOf (.hostRead 7 1) midTransfer = some [.read .ok [0x00#8]] := by decide +kernel
/-- R231: a timer that is not armed presents nothing. -/
theorem test_tick_unarmed :
    (next? (step { attached hw with schedule := [.present .timer .whole] })).map (fun t => (t.fault, t.schedule))
      = some (none, []) := by decide +kernel
/-- A hard reset, event by event, at its second delay. -/
def lastDelay : State := engineMoves 4 (beginScript (hardResetScript ++ [.ret none]) (booted hw))
/-- R153: during the last delay of HARD_RESET the engine is Busy and the phase not yet dropped; then the request
returns. -/
theorem test_busy_during_delay :
    (lastDelay.trace, lastDelay.engine, lastDelay.phase)
        = ([.level .rst false, .delay 120, .level .rst true, .delay 120], .busy, .initialized)
      ∧ ((engineMove lastDelay).trace.length, (engineMove lastDelay).engine, (engineMove lastDelay).phase)
        = (4, .idle, .configured) := by decide +kernel
/-- A table word given to the engine of an attached instance is the next step's instruction, a data word too. -/
theorem test_with_fetch_word :
    (next? (step ((attached hw).withFetchWord 16 0x29))).map (fun t => (busWords t.trace, t.schedule))
        = some ([0x029#9], [])
      ∧ (next? (step ((attached hw).withFetchWord 16 0x1A5))).map (fun t => (busWords t.trace, t.schedule))
        = some ([0x02C#9, 0x1A5#9], []) := by decide +kernel

/-! ### Witnesses: a state and operands that meet all the hypotheses of each statement -/

theorem witness_DecodeOfEncodeIsTheInstruction :
    encode (.cmdRowAddressSet 300#16 400#16) = some [0x02B#9, 0x101#9, 0x12C#9, 0x101#9, 0x190#9] := by decide
theorem witness_DecodedWordsAreTheEncoding :
    decodeFrame [0x03A#9, 0x155#9, 0x029#9] = .ok (.cmdPixelFormat 0x55#8, [0x029#9]) := by decide
/-- Both clauses: a data word in its frame, and one outside. -/
theorem witness_FrameStreamDecodesBack :
    [Instr.cmdMemoryWrite, .dataWord 0x01#8, .cmdPixelFormat 0x55#8].map encode
        = [[0x02C#9], [0x101#9], [0x03A#9, 0x155#9]].map some
      ∧ framed false [.cmdMemoryWrite, .dataWord 0x01#8, .cmdPixelFormat 0x55#8] = true
      ∧ [Instr.cmdDisplayOn, .dataWord 0x01#8].map encode = [[0x029#9], [0x101#9]].map some
      ∧ framed false [.cmdDisplayOn, .dataWord 0x01#8] = false := by decide
theorem witness_ReservedOpcodesAreRefused :
    (0x10#8 : Byte) ∉ [0x01#8, 0x11#8, 0x29#8, 0x2A#8, 0x2B#8, 0x2C#8, 0x3A#8] := by decide
/-- The invariant is met in the middle of a transfer, from where the engine steps. -/
theorem witness_EveryStepKeepsTheInvariant :
    midTransfer.inv = true ∧ midTransfer.engine = .busy ∧ step midTransfer = .next (engineMove midTransfer) :=
  ⟨by decide +kernel, by decide +kernel, rfl⟩
theorem witness_EveryStepOnlyAppendsToTheTrace : step midTransfer = .next (engineMove midTransfer) := rfl
theorem witness_StepRunsTheDecodedFrame :
    ((attached hw).giveFrame [0x029#9, 0x011#9]).ready
      ∧ ((attached hw).giveFrame [0x029#9, 0x011#9]).schedule = [.frame [0x029#9, 0x011#9]]
      ∧ decodeFrame [0x029#9, 0x011#9] = .ok (.cmdDisplayOn, [0x011#9]) := by decide
/-- A host with a request the port accepts, and one with a request it does not, in both views. -/
theorem witness_StepRunsThePresentedRequest :
    let s (i : Instr) (view : View) : State :=
      { booted hw with hosts := [[.request i]], schedule := [.present (.host 0) view] }
    ∀ i ∈ [Instr.hardReset, .hostRead 0 1, .configureOutputs], ∀ view ∈ [View.whole, .stepped],
      (s i view).fault = none ∧ (s i view).schedule = [.present (.host 0) view] ∧ (s i view).waiting 0 = false
        ∧ (s i view).hosts[0]? = some [.request i] := by decide
theorem witness_port_request_clauses :
    Instr.hardReset.isHostRequest = true ∧ Instr.configureOutputs.isHostRequest = false := by decide
/-- A host with each drawing operation. -/
theorem witness_DrawingOperationsMapOntoRequests :
    let s (op : HostOp) (view : View) : State :=
      { booted hw with hosts := [[op]], schedule := [.present (.host 0) view] }
    ∀ op ∈ [HostOp.fillRect ⟨0, 0, 1, 1⟩ 1#16, .copyRect ⟨0, 0, 1, 1⟩ 2 2, .dirty (.rectangle ⟨0, 0, 1, 1⟩),
        .dirty (.colorFill ⟨0, 0, 1, 1⟩ 1#16), .dirty .generic], ∀ view ∈ [View.whole, .stepped],
      (s op view).fault = none ∧ (s op view).schedule = [.present (.host 0) view] ∧ (s op view).waiting 0 = false
        ∧ (s op view).hosts[0]? = some [op] := by decide
theorem witness_TimerTicksOnlyWhileArmed :
    ∀ view ∈ [View.whole, .stepped],
      ∀ s ∈ [{ booted hw with schedule := [.present .timer view] }, { attached hw with schedule := [.present .timer view] }],
        s.fault = none ∧ s.schedule = [.present .timer view] := by decide
theorem witness_NoAgentStepsAfterAFault :
    ((booted hw).raise (.precondition .busUnset)).fault = some (.precondition .busUnset) := by decide
/-- INIT_PANEL, run event by event and whole. -/
theorem witness_EventByEventRunEndsAsTheWholeRun :
    ∃ b t, (attached hw).ready ∧ (attached hw).script = [] ∧ issue .stepped .initPanel (attached hw) = .next b
      ∧ exec .initPanel (attached hw) = .next t ∧ t.fault = none ∧ b.engine = .busy :=
  ⟨beginScript (initPanelScript ++ [retStatus (attached hw) .initPanel .ok]) (attached hw),
    runWhole (initPanelScript ++ [retStatus (attached hw) .initPanel .ok]) (attached hw),
    by decide, by decide, rfl, rfl, by decide +kernel, by decide +kernel⟩
/-- Before an event, at the engine's turn and with an empty schedule, and after the last event. -/
theorem witness_EngineMoveEmitsOneEvent :
    (midTransfer.fault = none ∧ midTransfer.engine = .busy ∧ midTransfer.schedule = []
        ∧ (midTransfer.setSchedule [.engine]).schedule = [.engine] ∧ midTransfer.script.any SubOp.isEvent = true
        ∧ (engineMove midTransfer).fault = none)
      ∧ (lastDelay.fault = none ∧ lastDelay.engine = .busy ∧ lastDelay.script.any SubOp.isEvent = false) := by
  decide +kernel
/-- HARD_RESET before its second delay. -/
theorem witness_DelayIsOneEvent :
    (engineMoves 3 (beginScript (hardResetScript ++ [.ret none]) (booted hw))).script
      = [.delay 120, .setPhase .configured, .setLastCol none, .setLastRow none, .ret none] := by decide +kernel
/-- A request presented while Busy, a held one at a turn that serves it, Busy and Idle, and with an empty schedule. -/
theorem witness_BusyEngineHoldsRequests :
    let held : List Held := [{ agent := .host 1, request := .hardReset }]
    (midTransfer.engine = .busy ∧ Instr.hardReset.isEngineRequest = true ∧ Instr.hardReset.wellFormed = true)
      ∧ (∀ s ∈ [midTransfer, booted hw],
        ({ s with enginePort := held, schedule := [.serveEngine 0 .whole] } : State).fault = none)
      ∧ held[0]? = some { agent := .host 1, request := .hardReset }
      ∧ (booted hw).ready ∧ (booted hw).schedule = [] ∧ (booted hw).bufferPort = [] := by
  decide +kernel
/-- The last byte of the buffer, a held write at a turn that serves it, the lock held and free, and with an empty
schedule. -/
theorem witness_LockHoldsHostWrites :
    let held : List Held := [{ agent := .host 1, request := .hostWrite 7 [0x01#8] }]
    (midTransfer.phase ≠ .detached ∧ 7 < midTransfer.cfg.bufSize ∧ midTransfer.lock = .heldByTransfer)
      ∧ ({ midTransfer with bufferPort := held, schedule := [.serveBuffer 0] } : State).fault = none
      ∧ held[0]? = some { agent := .host 1, request := .hostWrite 7 [0x01#8] }
      ∧ (booted small).ready ∧ (booted small).schedule = [] ∧ (booted small).lock = .free := by
  decide +kernel
/-- V17: the held write runs after the transfer, and its byte is in the buffer then. -/
theorem test_held_write_served :
    (next? (step { booted small with bufferPort := [{ agent := .host 1, request := .hostWrite 7 [0x01#8] }] })).map
        (fun t => (t.buffer, t.bufferPort, t.returned))
      = some (some [(7, 0x01#8)], [],
          [{ agent := .host 1, op := .request (.hostWrite 7 [0x01#8]), result := .written .ok 1 }]) := by decide +kernel
theorem witness_BufferIsFrozenDuringATransfer :
    midTransfer.engine = .busy ∧ midTransfer.lock = .heldByTransfer
      ∧ (∀ op ∈ midTransfer.script, op ≠ .release ∧ ∀ c, op ≠ .allocate c)
      ∧ step midTransfer = .next (engineMove midTransfer) := by
  refine ⟨by decide +kernel, by decide +kernel, ?_, rfl⟩
  have h : midTransfer.script.all (fun op => match op with
      | .release => false
      | .allocate _ => false
      | _ => true) = true := by decide +kernel
  intro op hop
  have := List.all_eq_true.1 h op hop
  cases op <;> simp_all
/-- After a memory write; in a frame with one argument left, and in the same frame full; before any command word. -/
theorem witness_DataWordIsOnePayloadByte :
    busWords (wordsEvents [0x029#9, 0x02C#9, 0x101#9]) = [0x029#9] ++ commandWord 0x2C#8 :: [0x101#9]
      ∧ (busWords (wordsEvents [0x02A#9, 0x101#9, 0x102#9, 0x103#9])
          = [] ++ commandWord 0x2A#8 :: [0x101#9, 0x102#9, 0x103#9] ∧ 3 < argumentCount 0x2A#8)
      ∧ (busWords (wordsEvents [0x03A#9, 0x101#9]) = [] ++ commandWord 0x3A#8 :: [0x101#9]
          ∧ argumentCount 0x3A#8 ≤ 1)
      ∧ busWords (attached hw).trace = [] ∧ (∀ d ∈ [0x101#9, 0x102#9, 0x103#9], BusWord.isData d = true)
      ∧ (attached hw).fault = none ∧ (attached hw).linesUp := by decide +kernel
theorem witness_ConfigureOutputsDrivesTheIdleLevels : State.reset.fault = none := by decide
theorem witness_SetLineDrivesOneLine :
    (booted hw).mode.get .wr = .output ∧ State.reset.mode.get .wr = .unset := by decide
theorem witness_ParallelByteNeedsOutputs :
    Line.d7 ∈ [Line.d0, .d1, .d2, .d3, .d4, .d5, .d6, .d7] ∧ State.reset.mode.get .d7 = .unset := by decide
/-- The hypotheses of the cycles, the frames, the data word and the parallel byte. -/
theorem witness_cycles_and_frames : (booted hw).fault = none ∧ (booted hw).linesUp := by decide
/-- Both clauses of HARD_RESET, INIT_PANEL and DETACH. -/
theorem witness_sequences :
    (State.reset.ready ∧ State.reset.phase = .detached)
      ∧ ((attached hw).ready ∧ (attached hw).phase ≠ .detached ∧ (attached hw).linesUp)
      ∧ ((booted hw).ready ∧ (booted hw).phase ≠ .detached ∧ (booted hw).linesUp) := by decide
theorem witness_SendCommandSendsOneFrame :
    (attached hw).ready ∧ (attached hw).linesUp ∧ (attached hw).phase ≠ .detached := by decide
/-- The full panel and an empty rectangle at the far edge. -/
theorem witness_windows :
    (attached hw).fault = none ∧ (attached hw).linesUp ∧ (attached hw).cfg.ok = true
      ∧ (attached hw).cfg.orientation = .landscape
      ∧ (attached { hw with orientation := .portrait }).cfg.orientation = .portrait
      ∧ Rect.validIn ⟨0, 0, 240, 400⟩ hw = true ∧ Rect.validIn ⟨240, 400, 0, 0⟩ hw = true := by decide
/-- One pixel too far on each axis, in every phase. -/
theorem witness_invalid_rectangles :
    (∀ s ∈ [{ State.reset with cfg := hw }, attached hw, booted hw],
      s.ready ∧ s.cfg.width < 1 + 240 ∧ s.cfg.height < 399 + 2)
    ∧ State.reset.phase = .detached ∧ (attached hw).phase = .configured ∧ (booted hw).phase = .initialized := by decide
/-- The hypotheses of the transfers and of the tick, the last pixel among the rectangles. -/
theorem witness_transfers :
    (booted hw).ready ∧ (booted hw).linesUp ∧ (booted hw).phase = .initialized ∧ (booted hw).buffer = some []
      ∧ Rect.validIn ⟨239, 399, 1, 1⟩ (booted hw).cfg = true := by decide
theorem witness_TransfersNeedAnInitializedPanel :
    (attached hw).ready ∧ (attached hw).phase = .configured := by decide
/-- A buffer of one colour over one pixel. -/
theorem witness_UniformBufferStreamsAsAFill :
    let s : State := { booted small with buffer := some [(1, 0xF8#8)] }
    s.ready ∧ s.linesUp ∧ s.phase = .initialized ∧ Rect.validIn ⟨0, 0, 1, 1⟩ s.cfg = true ∧ s.buffer.isSome = true
      ∧ ∀ p ∈ (⟨0, 0, 1, 1⟩ : Rect).pixels, s.pixelValue p.1 p.2 = some 0xF800#16 := by decide
theorem witness_AttachCreatesTheInstance :
    State.reset.ready ∧ State.reset.phase = .detached ∧ hw.ok = true ∧ hw.allocOk = true ∧ hw.gpioMapOk = true := by
  decide
/-- Each clause: a bad configuration, an attached instance, a failed draw. -/
theorem witness_AttachFailsInOrder :
    Cfg.ok { hw with width := 65536 } = false ∧ (hw.ok = true ∧ (attached hw).ready ∧ (attached hw).phase ≠ .detached)
      ∧ (Cfg.ok { hw with allocOk := false } = true ∧ State.reset.ready ∧ State.reset.phase = .detached
        ∧ Cfg.allocOk { hw with allocOk := false } = false) := by decide
/-- A transfer of the last pixel, from a state that meets the invariant. -/
theorem witness_NoRequestReachesAPrecondition :
    (booted small).inv = true ∧ (booted small).ready ∧ (Instr.transferRegion ⟨1, 1, 1, 1⟩).isHostRequest = true
      ∧ (next? (exec (.transferRegion ⟨1, 1, 1, 1⟩) (booted small))).isSome = true := by decide +kernel
/-- Every row of the table that moves the phase. -/
theorem witness_PhaseMovesByTheTable :
    ([(.attach hw, State.reset), (.attach { hw with allocOk := false }, State.reset), (.detach, booted hw),
      (.hardReset, booted hw), (.sendCommand .reset, booted hw), (.initPanel, attached hw),
      (.sendCommand .displayOn, attached hw)] : List (Instr × State)).map
        (fun p => (next? (exec p.1 p.2)).map fun t => (t.fault, t.phase))
      = [some (none, .configured), some (none, .detached), some (none, .detached), some (none, .configured),
         some (none, .configured), some (none, .initialized), some (none, .configured)] := by decide +kernel
theorem witness_RequestsNeedAnInstance :
    State.reset.ready ∧ State.reset.phase = .detached ∧ (Instr.hostRead 0 1).wellFormed = true
      ∧ (Instr.hostRead 0 1).isHostRequest = true ∧ ∀ cfg, Instr.hostRead 0 1 ≠ .attach cfg :=
  ⟨by decide, by decide, by decide, by decide, fun _ h => by cases h⟩
/-- The rate's bounds: 0, 1, the maximum and one above it. -/
theorem witness_RefreshRateIsBounded :
    (booted hw).ready ∧ (booted hw).phase ≠ .detached
      ∧ [0, 1, 60, 61].map (fun hz => decide (hz = 0 ∨ (booted hw).cfg.maxRefreshHz < hz)) = [true, false, false, true] := by
  decide
/-- The last byte and one past it, for HOST_READ and HOST_WRITE. -/
theorem witness_host_access :
    (attached small).phase ≠ .detached ∧ (attached small).buffer = some [] ∧ Memory.wf [] = true
      ∧ (attached small).lock = .free ∧ 7 < (attached small).cfg.bufSize ∧ (attached small).cfg.bufSize ≤ 8 := by decide
/-- One past the last byte, while a transfer holds the lock. -/
theorem witness_host_write_out_of_range :
    midTransfer.phase ≠ .detached ∧ midTransfer.cfg.bufSize ≤ 8 ∧ midTransfer.lock = .heldByTransfer := by decide +kernel
theorem witness_BufferReadAfterWrite : Memory.wf [(3, 0x01#8), (4, 0x02#8)] = true := by decide
theorem witness_CanonicalBuffersAreEqualWhenTheyReadEqual :
    ∃ m m' : Memory, m.wf = true ∧ m'.wf = true ∧ ∀ a, m.read a = m'.read a :=
  ⟨[(3, 0x01#8)], [(3, 0x01#8)], by decide, by decide, fun _ => rfl⟩
/-- Each clause of HOST_BLIT, at a host's turn: a wrong length, no instance, an invalid rectangle, a valid one. -/
theorem witness_BlitExpandsToRowWritesAndATransfer :
    let turn (s : State) (op : HostOp) : State := { s with hosts := [[op]], schedule := [.present (.host 0) .whole] }
    (∀ s ∈ [turn State.reset (.blit ⟨0, 0, 1, 1⟩ [0x01#8, 0x02#8]), turn (booted small) (.blit ⟨2, 0, 1, 1⟩ [0x01#8, 0x02#8]),
        turn (booted small) (.blit ⟨1, 1, 1, 1⟩ [0x01#8, 0x02#8]), turn (booted small) (.blit ⟨1, 1, 1, 1⟩ [])],
      s.fault = none ∧ s.schedule = [.present (.host 0) .whole] ∧ s.waiting 0 = false ∧ s.hosts[0]?.isSome = true)
      ∧ ([] : List Byte).length ≠ 2 * 1 * 1 ∧ ([0x01#8, 0x02#8] : List Byte).length = 2 * 1 * 1
      ∧ State.reset.phase = .detached ∧ (booted small).phase ≠ .detached
      ∧ Rect.validIn ⟨2, 0, 1, 1⟩ (booted small).cfg = false ∧ Rect.validIn ⟨1, 1, 1, 1⟩ (booted small).cfg = true := by
  decide
/-- A column of two pixels, over a byte that was there before. -/
theorem witness_BlitStreamsItsSource :
    let s : State := { booted small with buffer := some [(6, 0x09#8)] }
    let src : List Byte := [0x01#8, 0x02#8, 0x03#8, 0x04#8]
    Memory.wf [(6, 0x09#8)] = true ∧ Rect.validIn ⟨1, 0, 1, 2⟩ s.cfg = true ∧ src.length = 2 * 1 * 2
      ∧ s.ready ∧ s.linesUp ∧ s.phase = .initialized ∧ s.lock = .free
      ∧ (next? (execInOrder (requestsOf (blitRequests s.cfg ⟨1, 0, 1, 2⟩ src)) s)).map
          (fun t => (t.buffer, (busWords t.trace).drop 11))
        = some (some [(2, 0x01#8), (3, 0x02#8), (6, 0x03#8), (7, 0x04#8)], [0x101#9, 0x102#9, 0x103#9, 0x104#9, 0x029#9]) := by
  decide +kernel

end Sys2Proof.Tests
end

section
/-! PROOF. Reading the pixel buffer after a byte of it is written (spec/00_scope.md R13). -/

namespace Sys2Proof.Machine

open Sys2Proof

theorem Memory.read_cons (a c : Nat) (b : Byte) (m : Memory) :
    Memory.read ((c, b) :: m) a = if c = a then b else m.read a := rfl

/-- A blank is not listed, so the rest has to read blank where it would stand. -/
theorem Memory.cons_read {off : Nat} {m : Memory} (h : m.read off = Memory.blank) (a : Nat) (b : Byte) :
    (Memory.cons off b m).read a = if a = off then b else m.read a := by
  unfold Memory.cons
  split
  · next hb =>
    split
    · next ha => rw [ha, h, hb]
    · rfl
  · simp only [Memory.read_cons, eq_comm]

/-- Read after write, from any lower bound of the addresses. -/
theorem Memory.write_read {lo : Nat} {m : Memory} (h : Memory.wfFrom lo m = true) (off a : Nat) (b : Byte) :
    (m.write off b).read a = if a = off then b else m.read a := by
  induction m generalizing lo with
  | nil => exact Memory.cons_read (Memory.read_nil off) a b
  | cons cell m ih =>
    obtain ⟨c, d⟩ := cell
    obtain ⟨-, hd, hm⟩ := (Memory.wfFrom_cons ..).1 h
    simp only [Memory.write]
    split
    · next hlt =>
      have hwf : Memory.wfFrom (off + 1) ((c, d) :: m) = true := (Memory.wfFrom_cons ..).2 ⟨hlt, hd, hm⟩
      exact Memory.cons_read (Memory.read_of_lt hwf (Nat.lt_succ_self off)) a b
    · split
      · next heq =>
        subst heq
        rw [Memory.cons_read (Memory.read_of_lt hm (Nat.lt_succ_self off)), Memory.read_cons]
        grind
      · rw [Memory.read_cons, Memory.read_cons, ih hm]
        grind

/-- Settles O57, by induction over the buffer's list. -/
theorem bufferReadAfterWrite : Obligations.BufferReadAfterWrite := by
  intro m off a b h
  exact Memory.write_read h off a b

end Sys2Proof.Machine
end

section
/-! PROOF. The sub-step view refines the atomic one (spec/10_state.md R34, spec/20_memory.md R70): what is left of a script
is a field no sub-step reads, so running a script in parts, each part a move of the engine, runs it whole. -/

namespace Sys2Proof.Machine

open Sys2Proof

/-! ### A script that runs does not look at what is left of it -/

theorem setLineOp_setScript (l : Line) (v : Bool) (s : State) (ops : List SubOp) :
    setLineOp l v (s.setScript ops) = (setLineOp l v s).setScript ops :=
  (apply_ite (State.setScript · ops) (s.mode.get l = .output) (s.driveLine l v) (s.raise _)).symm

theorem busOp_setScript (b : Byte) (s : State) (ops : List SubOp) :
    busOp b (s.setScript ops) = (busOp b s).setScript ops :=
  (apply_ite (State.setScript · ops) (s.mode.dataOutputs = true) (s.driveBus b) (s.raise _)).symm

theorem busPixelOp_setScript (off : Nat) (s : State) (ops : List SubOp) :
    busPixelOp off (s.setScript ops) = (busPixelOp off s).setScript ops := by
  have hbyte : (s.setScript ops).bufferByte off = s.bufferByte off := rfl
  unfold busPixelOp
  rw [hbyte]
  split
  · exact busOp_setScript ..
  · rfl

/-- No sub-step reads or writes what is left of the script. -/
theorem runOp_setScript (op : SubOp) (s : State) (ops : List SubOp) :
    runOp op (s.setScript ops) = (runOp op s).setScript ops := by
  cases op with
  | setLine l v => exact setLineOp_setScript ..
  | bus b => exact busOp_setScript ..
  | busPixel off => exact busPixelOp_setScript ..
  | ret reply => cases reply <;> rfl
  | _ => rfl

/-- Nor does a script. -/
theorem runScript_setScript (as : List SubOp) (s : State) (ops : List SubOp) :
    runScript as (s.setScript ops) = (runScript as s).setScript ops := by
  induction as generalizing s with
  | nil => rfl
  | cons op as ih =>
    simp only [runScript, runOp_setScript, State.setScript_fault]
    split
    · rfl
    · exact ih (runOp op s)

theorem setScript_setScript (s : State) (as bs : List SubOp) : (s.setScript as).setScript bs = s.setScript bs := rfl

theorem setScript_script (s : State) : s.setScript s.script = s := rfl

/-! ### A script run in two parts -/

/-- A script without a fault has none on the way: a fault ends it (R13). -/
theorem runScript_fault_of_append {as bs : List SubOp} {s : State} (hs : s.fault = none)
    (h : (runScript (as ++ bs) s).fault = none) : (runScript as s).fault = none := by
  induction as generalizing s with
  | nil => exact hs
  | cons op as ih =>
    cases hf : (runOp op s).fault with
    | some f => simp [runScript, hf] at h
    | none =>
      rw [List.cons_append, runScript_cons hf] at h
      rw [runScript_cons hf]
      exact ih hf h

/-- Both parts of a script without a fault run without one, and the second ends where the script does. -/
theorem runScript_parts {as bs ops : List SubOp} (hops : as ++ bs = ops) {s : State} (hs : s.fault = none)
    (h : (runScript ops s).fault = none) :
    (runScript as s).fault = none ∧ runScript bs (runScript as s) = runScript ops s := by
  subst hops
  have has := runScript_fault_of_append hs h
  exact ⟨has, (runScript_append has).symm⟩

theorem leading_append_fromEvent (ops : List SubOp) : leading ops ++ fromEvent ops = ops :=
  List.takeWhile_append_dropWhile

/-! ### The engine's moves run a script to its end -/

/-- A request begun: its first assignments are made, and the script from its first event on is left (R34). -/
theorem beginScript_eq (ops : List SubOp) (s : State) :
    beginScript ops s = (runScript (leading ops) (s.setEngine .busy)).setScript (fromEvent ops) :=
  runScript_setScript ..

/-- One move of the engine, with `ops` left of the script (R34). -/
theorem engineMove_setScript (ops : List SubOp) (s : State) :
    engineMove (s.setScript ops) = (runScript (oneEvent ops) s).setScript (afterEvent ops) := by
  rw [engineMove, State.setScript_script, setScript_setScript, runScript_setScript]

/-- A move runs at least one sub-step of a script that has one, so less of it is left. -/
theorem afterEvent_length_lt {ops : List SubOp} (h : ops ≠ []) : (afterEvent ops).length < ops.length := by
  have hpos : oneEvent ops ≠ [] := by
    unfold oneEvent
    split
    · next hnil => simpa [hnil] using (leading_append_fromEvent ops).trans_ne h
    · simp
  have hlen := congrArg List.length (oneEvent_append_afterEvent ops)
  rw [List.length_append] at hlen
  have := List.length_pos_iff.2 hpos
  omega

/-- As many moves as sub-steps are left end where the script does, with nothing left of it: each move runs a first part of
what is left, and the moves after it the rest. -/
theorem engineMoves_setScript {n : Nat} {ops : List SubOp} {s : State} (hn : ops.length ≤ n) (hs : s.fault = none)
    (h : (runScript ops s).fault = none) : engineMoves n (s.setScript ops) = (runScript ops s).setScript [] := by
  induction n generalizing ops s with
  | zero =>
    obtain rfl := List.length_eq_zero_iff.1 (Nat.le_zero.1 hn)
    rfl
  | succ n ih =>
    by_cases hops : ops = []
    · subst hops
      simp [engineMoves, runScript]
    · obtain ⟨hone, hrest⟩ := runScript_parts (oneEvent_append_afterEvent ops) hs h
      have hlt := afterEvent_length_lt hops
      calc engineMoves (n + 1) (s.setScript ops)
          = engineMoves n (engineMove (s.setScript ops)) := by simp [engineMoves, hs, hops]
        _ = engineMoves n ((runScript (oneEvent ops) s).setScript (afterEvent ops)) := by rw [engineMove_setScript]
        _ = (runScript (afterEvent ops) (runScript (oneEvent ops) s)).setScript [] :=
            ih (by omega) hone (by rwa [hrest])
        _ = (runScript ops s).setScript [] := by rw [hrest]

/-- A script begun and moved to its end ends as the script run whole (R14, R34, R70). -/
theorem engineMoves_beginScript {ops : List SubOp} {s : State} (hs : s.fault = none) (hscript : s.script = [])
    (h : (runWhole ops s).fault = none) :
    engineMoves (fromEvent ops).length (beginScript ops s) = runWhole ops s := by
  have hleft : (runWhole ops s).script = [] := (runScript_frame ops (s.setEngine .busy)).1.trans hscript
  obtain ⟨hlead, hrest⟩ := runScript_parts (s := s.setEngine .busy) (leading_append_fromEvent ops) hs h
  calc engineMoves (fromEvent ops).length (beginScript ops s)
      = (runScript (fromEvent ops) (runScript (leading ops) (s.setEngine .busy))).setScript [] := by
        rw [beginScript_eq]
        exact engineMoves_setScript le_rfl hlead (by rw [hrest]; exact h)
    _ = (runWhole ops s).setScript [] := by rw [hrest, runWhole]
    _ = runWhole ops s := by rw [← hleft, setScript_script]

/-! ### A request in both views -/

/-- A request with a plan is presented at the engine port, whole (R14, R36). -/
theorem exec_of_enginePlan {i : Instr} {s : State} {plan : Plan} (h : enginePlan i s = some plan) :
    exec i s = presentEngine .whole i plan s := by
  cases i <;> cases h <;> rfl

/-- A request without a plan is its meaning in the stepped view too. -/
theorem issue_stepped_of_no_plan {i : Instr} {s : State} (h : enginePlan i s = none) :
    issue .stepped i s = exec i s := by
  simp [issue, h]

/-- Presented to an Idle engine, a request that runs whole without a fault has a script, and is begun in the stepped
view. -/
theorem presentEngine_idle_cases {i : Instr} {plan : Plan} {s b t : State} (hs : s.engine = .idle)
    (hb : presentEngine .stepped i plan s = .next b) (ht : presentEngine .whole i plan s = .next t)
    (hf : t.fault = none) : ∃ ops, b = beginScript ops s ∧ t = runWhole ops s := by
  cases plan with
  | refuse r => simp [presentEngine] at ht
  | fault f =>
    have hraise : s.raise f = t := by simpa [presentEngine, hs] using ht
    simp [← hraise] at hf
  | script ops =>
    refine ⟨ops, ?_, ?_⟩
    · simpa [presentEngine, hs] using hb.symm
    · simpa [presentEngine, hs] using ht.symm

/-- Settles O16: what has no plan takes no move; a script begun is run in parts by the moves, by induction on their
number. -/
theorem eventByEventRunEndsAsTheWholeRun : Obligations.EventByEventRunEndsAsTheWholeRun := by
  intro i s b t ⟨hfault, hidle⟩ hscript hb ht hf
  cases hplan : enginePlan i s with
  | none =>
    rw [issue_stepped_of_no_plan hplan, ht] at hb
    cases hb
    exact ⟨0, rfl⟩
  | some plan =>
    rw [issue_stepped hplan] at hb
    rw [exec_of_enginePlan hplan] at ht
    obtain ⟨ops, rfl, rfl⟩ := presentEngine_idle_cases hidle hb ht hf
    exact ⟨(fromEvent ops).length, engineMoves_beginScript hfault hscript hf⟩

end Sys2Proof.Machine
end

section
/-! PROOF. What one step can do (spec/10_state.md R20, R36, R79): the environment moves on, and then at most one thing happens
to the machine. -/

namespace Sys2Proof.Machine

open Sys2Proof

/-! ### The environment moves on -/

/-- `u` is `s` after a turn is taken: the schedule, the hosts' operations and the caller are what they are by now, a port may
have let a request go, and everything else is as it was. -/
structure TurnTaken (s u : State) : Prop where
  eq : u = { s with
    schedule := u.schedule, hosts := u.hosts, caller := u.caller,
    enginePort := u.enginePort, bufferPort := u.bufferPort }
  enginePort : u.enginePort ⊆ s.enginePort
  bufferPort : u.bufferPort ⊆ s.bufferPort

theorem TurnTaken.refl (s : State) : TurnTaken s s := ⟨rfl, List.Subset.refl _, List.Subset.refl _⟩

theorem TurnTaken.setSchedule {s u : State} (h : TurnTaken s u) (ts : List Turn) : TurnTaken s (u.setSchedule ts) :=
  ⟨by rw [h.eq]; rfl, h.enginePort, h.bufferPort⟩

theorem TurnTaken.setHost {s u : State} (h : TurnTaken s u) (k : Nat) (ops : List HostOp) :
    TurnTaken s (u.setHost k ops) :=
  ⟨by rw [h.eq]; rfl, h.enginePort, h.bufferPort⟩

theorem TurnTaken.setCaller {s u : State} (h : TurnTaken s u) (a : Agent) : TurnTaken s (u.setCaller a) :=
  ⟨by rw [h.eq]; rfl, h.enginePort, h.bufferPort⟩

theorem TurnTaken.unholdEngine {s u : State} (h : TurnTaken s u) (n : Nat) : TurnTaken s (u.unholdEngine n) :=
  ⟨by rw [h.eq]; rfl, List.Subset.trans (List.eraseIdx_sublist _ _).subset h.enginePort, h.bufferPort⟩

theorem TurnTaken.unholdBuffer {s u : State} (h : TurnTaken s u) (n : Nat) : TurnTaken s (u.unholdBuffer n) :=
  ⟨by rw [h.eq]; rfl, h.enginePort, List.Subset.trans (List.eraseIdx_sublist _ _).subset h.bufferPort⟩

/-! ### What then happens -/

/-- A request of an agent: a host's, or the timer's tick (R97, R230). -/
def IsRequest (i : Instr) : Prop := i.isHostRequest = true ∨ i = .refreshTick

/-- What can be issued from `s`: a request of an agent, or what a port of `s` holds. -/
def Issuable (s : State) (i : Instr) : Prop :=
  IsRequest i ∨ (∃ h ∈ s.enginePort, h.request = i) ∨ ∃ h ∈ s.bufferPort, h.request = i

/-- What happens to `s` once the turn is taken and the state is `u`. -/
inductive Happens (s u : State) : State → Prop where
  | nothing : Happens s u u
  | engineMove (hbusy : u.engine = .busy) : Happens s u (engineMove u)
  | issued {view : View} {i : Instr} {t : State} (hi : Issuable s i) (h : issue view i u = .next t) : Happens s u t
  | frame {words ws : List BusWord} {i : Instr} {t : State} (hidle : u.engine = .idle)
      (hi : decodeFrame words = .ok (i, ws)) (h : exec i u = .next t) : Happens s u t
  | raised (f : Fault) : Happens s u (u.raise f)
  | replied (r : Reply) : Happens s u (u.reply r)

/-- A turn that leads from `s` to `t`: it is taken, and then something happens. -/
def Leads (s t : State) : Prop := ∃ u, TurnTaken s u ∧ Happens s u t

theorem State.engine_eq_idle {s : State} (h : ¬ s.engine = .busy) : s.engine = .idle := by
  cases he : s.engine with
  | idle => rfl
  | busy => exact absurd he h

theorem isRequest_dirtyRequest (d : Dirty) : IsRequest (dirtyRequest d) := by
  cases d <;> exact .inl rfl

section
variable {s u t : State} (hu : TurnTaken s u)
include hu

theorem leads_of_presentBlit {k : Nat} {r : Rect} {src : List Byte} {rest : List HostOp}
    (h : presentBlit k r src rest u = .next t) : Leads s t := by
  unfold presentBlit at h
  split at h
  · cases h
  · split at h
    · cases h; exact ⟨u, hu, .raised _⟩
    · split at h
      · cases h; exact ⟨_, hu.setHost .., .nothing⟩
      · cases h; exact ⟨u, hu, .replied _⟩

theorem leads_of_issue {view : View} {i : Instr} (hi : IsRequest i) (h : issue view i u = .next t) : Leads s t :=
  ⟨u, hu, .issued (.inl hi) h⟩

theorem leads_of_presentOp {view : View} {k : Nat} {op : HostOp} {rest : List HostOp}
    (h : presentOp view k op rest u = .next t) : Leads s t := by
  cases op with
  | request i =>
    simp only [presentOp] at h
    split at h
    · next hi => exact leads_of_issue hu (.inl hi) h
    · cases h
  | fillRect r c => exact leads_of_issue hu (.inl rfl) h
  | copyRect src x y => exact leads_of_issue hu (.inl rfl) h
  | dirty d => exact leads_of_issue hu (isRequest_dirtyRequest d) h
  | blit r src => exact leads_of_presentBlit hu h

theorem leads_of_presentNext {agent : Agent} {view : View} (h : presentNext agent view u = .next t) : Leads s t := by
  have nothing (h : Host.Outcome.next u = (.next t : Host.Outcome State Fault Refusal)) : Leads s t := by
    cases h; exact ⟨u, hu, .nothing⟩
  cases agent with
  | timer =>
    simp only [presentNext] at h
    split at h
    · exact leads_of_issue (hu.setCaller _) (.inr rfl) h
    · exact nothing h
  | host k =>
    simp only [presentNext] at h
    split at h
    · exact nothing h
    · split at h
      · exact leads_of_presentOp ((hu.setHost ..).setCaller _) h
      · exact nothing h
      · exact nothing h

theorem leads_of_serveEngine {n : Nat} {view : View} (h : serveEngine n view u = .next t) : Leads s t := by
  unfold serveEngine at h
  split at h
  · cases h; exact ⟨u, hu, .nothing⟩
  · split at h
    · next held hheld =>
      have hmem : held ∈ s.enginePort := hu.enginePort (List.mem_of_getElem? hheld)
      exact ⟨_, (hu.unholdEngine n).setCaller _, .issued (.inr (.inl ⟨held, hmem, rfl⟩)) h⟩
    · cases h; exact ⟨u, hu, .nothing⟩

theorem leads_of_serveBuffer {n : Nat} (h : serveBuffer n u = .next t) : Leads s t := by
  unfold serveBuffer at h
  split at h
  · cases h; exact ⟨u, hu, .nothing⟩
  · split at h
    · next held hheld =>
      have hmem : held ∈ s.bufferPort := hu.bufferPort (List.mem_of_getElem? hheld)
      exact ⟨_, (hu.unholdBuffer n).setCaller _, .issued (view := .whole) (.inr (.inr ⟨held, hmem, rfl⟩)) h⟩
    · cases h; exact ⟨u, hu, .nothing⟩

theorem leads_of_engineTurn (h : engineTurn u = .next t) : Leads s t := by
  unfold engineTurn at h
  split at h
  · next hbusy => cases h; exact ⟨u, hu, .engineMove hbusy⟩
  · cases h; exact ⟨u, hu, .nothing⟩

end

theorem leads_of_runFrame {s t : State} (hidle : s.engine = .idle) {words : List BusWord} {rest : List Turn}
    (h : runFrame words rest s = .next t) : Leads s t := by
  unfold runFrame at h
  split at h
  · cases h
  · next i ws hd => exact ⟨_, (TurnTaken.refl s).setSchedule (restOfFrame ws rest), .frame hidle hd h⟩

theorem leads_of_defaultTurn {s t : State} (h : defaultTurn s = .next t) : Leads s t := by
  have hs := TurnTaken.refl s
  unfold defaultTurn at h
  split at h
  · next hbusy => cases h; exact ⟨s, hs, .engineMove hbusy⟩
  · split at h
    · exact leads_of_serveBuffer hs h
    · split at h
      · exact leads_of_serveEngine hs h
      · split at h
        · exact leads_of_presentNext hs h
        · cases h; exact ⟨s, hs, .nothing⟩

theorem leads_of_takeTurn {s t : State} {turn : Turn} {rest : List Turn} (h : takeTurn turn rest s = .next t) :
    Leads s t := by
  have hs := (TurnTaken.refl s).setSchedule rest
  cases turn with
  | present agent view => exact leads_of_presentNext hs h
  | engine => exact leads_of_engineTurn hs h
  | serveEngine n view => exact leads_of_serveEngine hs h
  | serveBuffer n => exact leads_of_serveBuffer hs h
  | frame words =>
    simp only [takeTurn] at h
    split at h
    · next hbusy => cases h; exact ⟨s, .refl s, .engineMove hbusy⟩
    · next hidle => exact leads_of_runFrame (State.engine_eq_idle hidle) h

/-- What a step can do: from a state without a fault it takes a turn, and then at most one thing happens (R34, R259). -/
theorem leads_of_step {s t : State} (h : step s = .next t) : s.fault = none ∧ Leads s t := by
  unfold step move at h
  split at h
  · cases h
  · next hf =>
    refine ⟨hf, ?_⟩
    split at h
    · exact leads_of_defaultTurn h
    · exact leads_of_takeTurn h

end Sys2Proof.Machine
end

section
/-! PROOF. What presenting a request and giving one its meaning can come to: a script, or one of the few other effects. -/

namespace Sys2Proof.Machine

open Sys2Proof

/-- What an engine-port request presented to the engine can come to (R36, R103). -/
inductive Presented (i : Instr) (plan : Plan) (s : State) : State → Prop where
  | held (hbusy : s.engine = .busy) : Presented i plan s (s.holdEngine i)
  | raised {f : Fault} (hidle : s.engine = .idle) : Presented i plan s (s.raise f)
  | whole {ops : List SubOp} (hidle : s.engine = .idle) (hplan : plan = .script ops) :
      Presented i plan s (runWhole ops s)
  | begun {ops : List SubOp} (hidle : s.engine = .idle) (hplan : plan = .script ops) :
      Presented i plan s (beginScript ops s)

theorem presented_of_presentEngine {view : View} {i : Instr} {plan : Plan} {s t : State}
    (h : presentEngine view i plan s = .next t) : Presented i plan s t := by
  unfold presentEngine at h
  split at h
  · cases h
  · split at h
    · next hbusy => cases h; exact .held hbusy
    · next hidle => cases h; exact .raised (State.engine_eq_idle hidle)
  · split at h
    · next hbusy => cases h; exact .held hbusy
    · next hidle =>
      split at h
      · cases h; exact .whole (State.engine_eq_idle hidle) rfl
      · cases h; exact .begun (State.engine_eq_idle hidle) rfl

/-- What an instruction that does not go through the engine can come to. -/
inductive Performed (s : State) : Instr → State → Prop where
  | raised (i : Instr) (f : Fault) : Performed s i (s.raise f)
  | replied (i : Instr) (r : Reply) : Performed s i (s.reply r)
  | heldAtBuffer (off : Nat) (bytes : List Byte) :
      Performed s (.hostWrite off bytes) (s.holdBuffer (.hostWrite off bytes))
  | written {off : Nat} {bytes : List Byte} {m : Memory} (r : Reply) (hm : s.buffer = some m)
      (hoff : off < s.cfg.bufSize) :
      Performed s (.hostWrite off bytes)
        ((s.setBuffer (m.writeBytes off (bytes.take (clampLength off bytes.length s.cfg.bufSize)))).reply r)
  | ran {i : Instr} (ops : List SubOp) (hi : ¬ IsRequest i) : Performed s i (runScript ops s)

theorem not_isRequest {i : Instr} (hhost : i.isHostRequest = false) (htick : i ≠ .refreshTick) :
    ¬ IsRequest i
  | .inl h => Bool.false_ne_true (hhost.symm.trans h)
  | .inr h => htick h

theorem performed_of_execHostRead {off len : Nat} {s t : State} (h : execHostRead off len s = .next t) :
    Performed s (.hostRead off len) t := by
  unfold execHostRead at h
  split at h
  · cases h; exact .raised ..
  · split at h
    · cases h; exact .replied ..
    · split at h
      · cases h; exact .raised ..
      · cases h; exact .replied ..

theorem performed_of_execHostWrite {off : Nat} {bytes : List Byte} {s t : State}
    (h : execHostWrite off bytes s = .next t) : Performed s (.hostWrite off bytes) t := by
  unfold execHostWrite at h
  split at h
  · cases h; exact .raised ..
  · split at h
    · cases h; exact .replied ..
    · next hoff =>
      split at h
      · cases h; exact .heldAtBuffer ..
      · split at h
        · cases h; exact .raised ..
        · next hm => cases h; exact .written _ hm (Nat.lt_of_not_le hoff)

theorem performed_of_execDataWord {b : Byte} {s t : State} (h : execDataWord b s = .next t) :
    Performed s (.dataWord b) t := by
  have hi := not_isRequest (i := .dataWord b) rfl (by simp)
  unfold execDataWord at h
  split at h
  · cases h; exact .ran _ hi
  · cases h; exact .ran _ hi
  · cases h

theorem performed_of_execSetWindow {r : Rect} {s t : State} (h : execSetWindow r s = .next t) :
    Performed s (.setWindow r) t := by
  unfold execSetWindow at h
  split at h
  · cases h; exact .ran _ (not_isRequest rfl (by simp))
  · cases h; exact .raised ..

theorem performed_of_runScript {i : Instr} {ops : List SubOp} {s t : State} (hhost : i.isHostRequest = false)
    (htick : i ≠ .refreshTick) (h : Host.Outcome.next (runScript ops s) = (.next t : Host.Outcome State Fault Refusal)) :
    Performed s i t := by
  cases h
  exact .ran ops (not_isRequest hhost htick)

theorem performed_of_runOp {i : Instr} {op : SubOp} {s t : State} (hhost : i.isHostRequest = false)
    (htick : i ≠ .refreshTick) (h : Host.Outcome.next (runOp op s) = (.next t : Host.Outcome State Fault Refusal)) :
    Performed s i t :=
  performed_of_runScript (ops := [op]) hhost htick (by rw [runScript_single]; exact h)

/-- What an instruction without a plan does: a HOST_READ, a HOST_WRITE, and otherwise a script of its own. -/
theorem performed_of_exec {i : Instr} {s t : State} (hplan : enginePlan i s = none) (h : exec i s = .next t) :
    Performed s i t := by
  cases i with
  | attach | detach | hardReset | initPanel | sendCommand | transferRegion | fillRegion | transferFullFrame
  | setRefreshRate | refreshTick => cases hplan
  | hostRead off len => exact performed_of_execHostRead h
  | hostWrite off bytes => exact performed_of_execHostWrite h
  | dataWord b => exact performed_of_execDataWord h
  | validate r => cases h; exact .replied ..
  | setWindow r => exact performed_of_execSetWindow h
  | setLine l v => exact performed_of_runOp (op := .setLine l v) rfl (by simp) h
  | writeParallelByte b => exact performed_of_runOp (op := .bus b) rfl (by simp) h
  | delay ms => exact performed_of_runOp (op := .delay ms) rfl (by simp) h
  | cmdReset | cmdSleepOut | cmdDisplayOn | cmdColumnAddressSet | cmdRowAddressSet | cmdMemoryWrite | cmdPixelFormat
  | configureOutputs | writeCommand | writeData => exact performed_of_runScript rfl (by simp) h

/-- A request issued is presented at the engine port if it has a plan, and else performed. -/
theorem presented_or_performed_of_issue {view : View} {i : Instr} {s t : State} (h : issue view i s = .next t) :
    (∃ plan, enginePlan i s = some plan ∧ Presented i plan s t) ∨ (enginePlan i s = none ∧ Performed s i t) := by
  cases hplan : enginePlan i s with
  | none =>
    refine .inr ⟨rfl, performed_of_exec hplan ?_⟩
    cases view with
    | whole => exact h
    | stepped => rwa [issue_stepped_of_no_plan hplan] at h
  | some plan =>
    refine .inl ⟨plan, rfl, ?_⟩
    cases view with
    | whole =>
      rw [issue_whole, exec_of_enginePlan hplan] at h
      exact presented_of_presentEngine h
    | stepped =>
      rw [issue_stepped hplan] at h
      exact presented_of_presentEngine h

end Sys2Proof.Machine
end

section
/-! PROOF. The trace (spec/10_state.md R34, R40): no sub-step removes an event, and one move of the engine adds one. -/

namespace Sys2Proof.Machine

open Sys2Proof

/-! ### What a sub-step that emits does -/

theorem busOp_cases (b : Byte) (s : State) :
    busOp b s = s.driveBus b ∨ busOp b s = s.raise (.precondition .busUnset) := by
  unfold busOp
  split
  · exact .inl rfl
  · exact .inr rfl

theorem setLineOp_cases (l : Line) (v : Bool) (s : State) :
    setLineOp l v s = s.driveLine l v ∨ setLineOp l v s = s.raise (.precondition (.setLineUnset l)) := by
  unfold setLineOp
  split
  · exact .inl rfl
  · exact .inr rfl

/-- A sub-step of an event emits one event and sets the lines, or it raises a fault; nothing else changes (R13, R17). -/
theorem runOp_event {op : SubOp} (hop : op.isEvent = true) (s : State) :
    (∃ mode level e, runOp op s = { s with mode := mode, level := level, trace := s.trace ++ [e] })
      ∨ ∃ f, runOp op s = s.raise f := by
  have bus (b : Byte) :
      (∃ mode level e, busOp b s = { s with mode := mode, level := level, trace := s.trace ++ [e] })
        ∨ ∃ f, busOp b s = s.raise f :=
    (busOp_cases b s).imp (fun h => ⟨_, _, _, h⟩) (fun h => ⟨_, h⟩)
  cases op with
  | setMode l => exact .inl ⟨_, _, _, rfl⟩
  | setLine l v => exact (setLineOp_cases l v s).imp (fun h => ⟨_, _, _, h⟩) (fun h => ⟨_, h⟩)
  | bus b => exact bus b
  | busPixel off =>
    simp only [runOp, busPixelOp]
    split
    · exact bus _
    · exact .inr ⟨_, rfl⟩
  | delay ms => exact .inl ⟨_, _, _, rfl⟩
  | _ => cases hop

/-- What a sub-step of an event leaves unchanged, of what the proofs below ask for. -/
theorem runOp_event_frame {op : SubOp} (hop : op.isEvent = true) (s : State) :
    (runOp op s).phase = s.phase ∧ (runOp op s).engine = s.engine ∧ (runOp op s).buffer = s.buffer
      ∧ (runOp op s).cfg = s.cfg := by
  obtain ⟨mode, level, e, h⟩ | ⟨f, h⟩ := runOp_event hop s <;> rw [h] <;> exact ⟨rfl, rfl, rfl, rfl⟩

/-! ### Nothing removes an event -/

/-- A sub-step appends to the trace, if anything (R40). -/
theorem trace_prefix_runOp (op : SubOp) (s : State) : s.trace <+: (runOp op s).trace := by
  cases hop : op.isEvent with
  | false => rw [runOp_trace hop]
  | true =>
    obtain ⟨mode, level, e, h⟩ | ⟨f, h⟩ := runOp_event hop s
    · rw [h]; exact ⟨_, rfl⟩
    · rw [h]; exact List.prefix_rfl

theorem trace_prefix_runScript (ops : List SubOp) (s : State) : s.trace <+: (runScript ops s).trace := by
  induction ops generalizing s with
  | nil => exact List.prefix_rfl
  | cons op ops ih =>
    simp only [runScript]
    split
    · exact trace_prefix_runOp op s
    · exact (trace_prefix_runOp op s).trans (ih _)

theorem Presented.trace_prefix {i : Instr} {plan : Plan} {s t : State} (h : Presented i plan s t) :
    s.trace <+: t.trace := by
  cases h with
  | held => exact List.prefix_rfl
  | raised => exact List.prefix_rfl
  | @whole ops => exact trace_prefix_runScript ops (s.setEngine .busy)
  | @begun ops => exact trace_prefix_runScript (leading ops) ((s.setEngine .busy).setScript (fromEvent ops))

theorem Performed.trace_prefix {i : Instr} {s t : State} (h : Performed s i t) : s.trace <+: t.trace := by
  cases h with
  | ran ops => exact trace_prefix_runScript ops s
  | _ => exact List.prefix_rfl

theorem trace_prefix_issue {view : View} {i : Instr} {s t : State} (h : issue view i s = .next t) :
    s.trace <+: t.trace := by
  obtain ⟨plan, -, hpresented⟩ | ⟨-, hperformed⟩ := presented_or_performed_of_issue h
  · exact hpresented.trace_prefix
  · exact hperformed.trace_prefix

theorem TurnTaken.trace {s u : State} (h : TurnTaken s u) : u.trace = s.trace := by rw [h.eq]

/-- Settles O10: whatever a step does after its turn is taken, it appends. -/
theorem everyStepOnlyAppendsToTheTrace : Obligations.EveryStepOnlyAppendsToTheTrace := by
  intro s t hstep
  obtain ⟨-, u, hu, ht⟩ := leads_of_step hstep
  rw [← hu.trace]
  cases ht with
  | nothing => exact List.prefix_rfl
  | engineMove => exact trace_prefix_runScript (oneEvent u.script) (u.setScript (afterEvent u.script))
  | issued hi h => exact trace_prefix_issue h
  | frame hidle hi h => exact trace_prefix_issue (view := .whole) h
  | raised f => exact List.prefix_rfl
  | replied r => exact List.prefix_rfl

/-! ### One move, one event -/

/-- An event that raises no fault is one event in the trace (R17). -/
theorem runOp_event_trace {op : SubOp} (hop : op.isEvent = true) {s : State} (h : (runOp op s).fault = none) :
    ∃ e, (runOp op s).trace = s.trace ++ [e] := by
  obtain ⟨mode, level, e, hrun⟩ | ⟨f, hrun⟩ := runOp_event hop s
  · exact ⟨e, by rw [hrun]⟩
  · rw [hrun] at h; cases h

/-- Assignments alone neither raise a fault nor emit. -/
theorem runScript_assignments {ops : List SubOp} (hops : ∀ op ∈ ops, op.isEvent = false) {s : State}
    (hf : s.fault = none) : (runScript ops s).fault = none ∧ (runScript ops s).trace = s.trace := by
  induction ops generalizing s with
  | nil => exact ⟨hf, rfl⟩
  | cons op ops ih =>
    obtain ⟨hop, hrest⟩ := List.forall_mem_cons.1 hops
    obtain ⟨hfault, htrace⟩ := ih hrest ((runOp_fault hop s).trans hf)
    rw [runScript_assign hop hf]
    exact ⟨hfault, htrace.trans (runOp_trace hop s)⟩

theorem leading_assignments (ops : List SubOp) : ∀ op ∈ leading ops, op.isEvent = false := by
  intro op hop
  simpa using List.mem_takeWhile_imp hop

theorem ridesWith_assignments (op : SubOp) (rest : List SubOp) : ∀ o ∈ ridesWith op rest, o.isEvent = false := by
  unfold ridesWith
  split
  · simp
  · exact leading_assignments rest

/-- An event with assignments before and after it emits what the event does. -/
theorem runScript_around_event {as bs : List SubOp} {op : SubOp} (has : ∀ o ∈ as, o.isEvent = false)
    (hop : op.isEvent = true) (hbs : ∀ o ∈ bs, o.isEvent = false) {s : State} (hf : s.fault = none)
    (h : (runScript (as ++ op :: bs) s).fault = none) :
    ∃ e, (runScript (as ++ op :: bs) s).trace = s.trace ++ [e] := by
  obtain ⟨hasFault, hasTrace⟩ := runScript_assignments has hf
  rw [runScript_append hasFault] at h ⊢
  have hopFault : (runOp op (runScript as s)).fault = none := by
    rw [← runScript_single]
    exact runScript_fault_of_append (bs := bs) hasFault h
  obtain ⟨e, he⟩ := runOp_event_trace hop hopFault
  refine ⟨e, ?_⟩
  rw [runScript_cons hopFault, (runScript_assignments hbs hopFault).2, he, hasTrace]

theorem fromEvent_eq_nil {ops : List SubOp} (h : ops.any SubOp.isEvent = false) : fromEvent ops = [] := by
  simpa [fromEvent] using h

theorem fromEvent_eq_cons {ops : List SubOp} (h : ops.any SubOp.isEvent = true) :
    ∃ op rest, fromEvent ops = op :: rest ∧ op.isEvent = true := by
  cases hf : fromEvent ops with
  | nil =>
    have hnone : ∀ op ∈ ops, op.isEvent = false := by simpa [fromEvent] using hf
    obtain ⟨op, hmem, hop⟩ := List.any_eq_true.1 h
    exact absurd hop (by simp [hnone op hmem])
  | cons op rest =>
    have hop := List.head?_dropWhile_not (fun op : SubOp => !op.isEvent) ops
    rw [show ops.dropWhile (fun op => !op.isEvent) = op :: rest from hf] at hop
    exact ⟨op, rest, rfl, by simpa using hop⟩

/-- A move that stands before an event emits one event. -/
theorem engineMove_emits {s : State} (hf : s.fault = none) (hscript : s.script.any SubOp.isEvent = true)
    (h : (engineMove s).fault = none) : ∃ e, (engineMove s).trace = s.trace ++ [e] := by
  obtain ⟨op, rest, hfrom, hop⟩ := fromEvent_eq_cons hscript
  have hone : oneEvent s.script = leading s.script ++ op :: ridesWith op rest := by simp only [oneEvent, hfrom]
  unfold engineMove at h ⊢
  rw [hone] at h ⊢
  exact runScript_around_event (leading_assignments _) hop (ridesWith_assignments _ _)
    (s := s.setScript (afterEvent s.script)) hf h

/-- A move that stands after the last event emits none and ends the script. -/
theorem engineMove_ends {s : State} (hf : s.fault = none) (hscript : s.script.any SubOp.isEvent = false) :
    (engineMove s).trace = s.trace ∧ (engineMove s).script = [] := by
  have hfrom := fromEvent_eq_nil hscript
  have hone : oneEvent s.script = leading s.script := by simp only [oneEvent, hfrom]
  have hafter : afterEvent s.script = [] := by simp only [afterEvent, hfrom]
  unfold engineMove
  rw [hone, hafter]
  exact ⟨(runScript_assignments (leading_assignments _) (s := s.setScript []) hf).2, (runScript_frame _ _).1⟩

/-- Settles O17: the engine's turn is a move, and a move is the assignments that lead, at most one event, and the assignments
that ride with it. -/
theorem engineMoveEmitsOneEvent : Obligations.EngineMoveEmitsOneEvent := by
  intro s hf
  refine ⟨?_, ?_, engineMove_emits hf, engineMove_ends hf⟩
  · intro hbusy hschedule
    simp [step, move, hf, hschedule, defaultTurn, hbusy]
  · intro rest hbusy hschedule
    simp [step, move, hf, hschedule, takeTurn, engineTurn, hbusy, State.setSchedule]

end Sys2Proof.Machine
end

section
/-! PROOF. What a request at the engine port comes to (spec/60_exceptions.md R258, R260): one plan for each, and the script of
each up to its return. -/

namespace Sys2Proof.Machine

open Sys2Proof

/-- The requests that stream pixels (R192 to R194, R230). -/
def streamsPixels : Instr → Bool
  | .transferRegion _ | .fillRegion _ _ | .transferFullFrame | .refreshTick => true
  | _ => false

/-- The script a request comes to in `s`, up to its return, and when. -/
inductive Body (s : State) : Instr → List SubOp → Prop where
  | attachFailed {cfg : Cfg} (hphase : s.phase = .detached) (hfails : ¬ (cfg.allocOk = true ∧ cfg.gpioMapOk = true)) :
      Body s (.attach cfg) []
  | attach {cfg : Cfg} (hcfg : cfg.ok = true) (hphase : s.phase = .detached)
      (hworks : cfg.allocOk = true ∧ cfg.gpioMapOk = true) :
      Body s (.attach cfg) ([.allocate cfg] ++ configureScript ++ [.setPhase .configured])
  | detach : Body s .detach [.release]
  | hardReset (hphase : s.phase ≠ .detached) : Body s .hardReset hardResetScript
  | initPanel (hphase : s.phase ≠ .detached) : Body s .initPanel initPanelScript
  | sendCommand {cmd : Command} (hphase : s.phase ≠ .detached) :
      Body s (.sendCommand cmd) (emitFrame cmd ++ afterCommand cmd)
  | stream {i : Instr} (hi : streamsPixels i = true) {r : Rect} {src : PixelSource} (hphase : s.phase = .initialized)
      (hvalid : r.validIn s.cfg = true) : Body s i (streamScript s.cfg r src)
  | streamRejected {i : Instr} (hi : streamsPixels i = true) : Body s i []
  | setRate {hz : Nat} (hphase : s.phase ≠ .detached) (hlegal : rateLegal hz s.cfg = true) :
      Body s (.setRefreshRate hz) [.setRate hz]
  | rateRejected {hz : Nat} : Body s (.setRefreshRate hz) []

/-- What the plan of a request can be: a refusal only where the form is wrong (R260), a fault, or its script, which ends in a
return. -/
inductive Planned (s : State) (i : Instr) : Plan → Prop where
  | refuse {r : Refusal} (hform : i.wellFormed = false) : Planned s i (.refuse r)
  | fault {f : Fault} : Planned s i (.fault f)
  | script {body : List SubOp} {reply : Option Reply} (hbody : Body s i body) :
      Planned s i (.script (body ++ [.ret reply]))

theorem planned_attach (cfg : Cfg) (s : State) : Planned s (.attach cfg) (planAttach cfg s) := by
  unfold planAttach
  split
  · next hcfg => exact .refuse (by simpa [Instr.wellFormed] using hcfg)
  · next hcfg =>
    split
    · exact .fault
    · next hphase =>
      have hdetached : s.phase = .detached := by simpa using hphase
      split
      · next halloc => exact .script (body := []) (.attachFailed hdetached (by simp_all))
      · next halloc =>
        split
        · next hgpio => exact .script (body := []) (.attachFailed hdetached (by simp_all))
        · next hgpio =>
          have hplanned := Planned.script (reply := some ⟨s.caller, .request (.attach cfg), .status .ok⟩)
            (Body.attach (cfg := cfg) (by simpa using hcfg) hdetached ⟨by simpa using halloc, by simpa using hgpio⟩)
          rwa [List.append_assoc] at hplanned

theorem planned_detach (s : State) : Planned s .detach (planDetach s) := by
  unfold planDetach
  split
  · exact .fault
  · exact .script (body := [.release]) .detach

theorem planned_hardReset (s : State) : Planned s .hardReset (planHardReset s) := by
  unfold planHardReset
  split
  · exact .fault
  · next hphase => exact .script (.hardReset hphase)

theorem planned_initPanel (s : State) : Planned s .initPanel (planInitPanel s) := by
  unfold planInitPanel
  split
  · exact .fault
  · next hphase => exact .script (.initPanel hphase)

theorem planned_sendCommand (cmd : Command) (s : State) : Planned s (.sendCommand cmd) (planSendCommand cmd s) := by
  unfold planSendCommand
  split
  · next hcmd => exact .refuse (by simp [Instr.wellFormed, hcmd])
  · split
    · exact .fault
    · next hphase => exact .script (.sendCommand hphase)

theorem planned_setRefreshRate (hz : Nat) (s : State) : Planned s (.setRefreshRate hz) (planSetRefreshRate hz s) := by
  unfold planSetRefreshRate
  split
  · exact .fault
  · next hphase =>
    split
    · next hlegal => exact .script (body := [.setRate hz]) (.setRate hphase hlegal)
    · exact .script (body := []) .rateRejected

/-- A transfer faults outside phase Initialized (R192). -/
theorem planned_transfer {i : Instr} {s : State} {inside : Plan} (h : s.phase = .initialized → Planned s i inside) :
    Planned s i (planTransfer i s inside) := by
  unfold planTransfer
  split
  · exact .fault
  · exact .fault
  · next hphase => exact h hphase

theorem planned_rectangle {i : Instr} (hi : streamsPixels i = true) (r : Rect) (src : PixelSource) (s : State) :
    Planned s i (planRectangle i r src s) := by
  refine planned_transfer fun hphase => ?_
  split
  · next hvalid => exact .script (.stream hi hphase hvalid)
  · exact .script (body := []) (.streamRejected hi)

/-- The full panel is a valid rectangle (R181). -/
theorem fullPanel_valid (c : Cfg) : c.fullPanel.validIn c = true := by
  simp [Rect.validIn, Cfg.fullPanel]

theorem planned_fullFrame {i : Instr} (hi : streamsPixels i = true) (reply : Option Reply) (s : State) :
    Planned s i (planTransfer i s (.script (streamScript s.cfg s.cfg.fullPanel .buffer ++ [.ret reply]))) :=
  planned_transfer fun hphase => .script (.stream hi hphase (fullPanel_valid s.cfg))

/-- Every request of the engine port is planned so. -/
theorem planned_of_enginePlan {i : Instr} {s : State} {plan : Plan} (h : enginePlan i s = some plan) :
    Planned s i plan := by
  cases i <;> cases h
  case attach cfg => exact planned_attach cfg s
  case detach => exact planned_detach s
  case hardReset => exact planned_hardReset s
  case initPanel => exact planned_initPanel s
  case sendCommand cmd => exact planned_sendCommand cmd s
  case transferRegion r => exact planned_rectangle rfl r .buffer s
  case fillRegion r color => exact planned_rectangle rfl r (.color color) s
  case transferFullFrame => exact planned_fullFrame rfl _ s
  case setRefreshRate hz => exact planned_setRefreshRate hz s
  case refreshTick => exact planned_fullFrame rfl _ s

/-- The requests that go through the engine have a plan (R36). -/
theorem enginePlan_of_isEngineRequest {i : Instr} (h : i.isEngineRequest = true) (s : State) :
    ∃ plan, enginePlan i s = some plan := by
  cases i with
  | attach | detach | hardReset | initPanel | sendCommand | transferRegion | fillRegion | transferFullFrame
  | setRefreshRate | refreshTick => exact ⟨_, rfl⟩
  | _ => cases h

/-! ### What the scripts are made of -/

/-- The sub-steps of frames and streams: they neither return nor move the phase. -/
def SubOp.isInner : SubOp → Bool
  | .ret _ | .setPhase _ | .release => false
  | _ => true

theorem SubOp.not_isReturn_of_isInner {op : SubOp} (h : op.isInner = true) : op.isReturn = false := by
  cases op with
  | ret => cases h
  | _ => rfl

theorem emitFrame_isInner (cmd : Command) : (emitFrame cmd).all SubOp.isInner = true := by
  have hghost : (ghostUpdate cmd).all SubOp.isInner = true := by cases cmd <;> rfl
  have hword (w : BusWord) : (emitWord w).all SubOp.isInner = true := rfl
  simp only [emitFrame, List.all_append, List.all_flatMap, hghost, hword, List.all_eq_true, implies_true, Bool.and_true]

theorem pixelScript_isInner (c : Cfg) (src : PixelSource) (px py : Nat) :
    (pixelScript c src px py).all SubOp.isInner = true := by
  cases src <;> rfl

theorem streamScript_isInner (c : Cfg) (r : Rect) (src : PixelSource) :
    (streamScript c r src).all SubOp.isInner = true := by
  have hwindow : (setWindowScript c r).all SubOp.isInner = true := by
    simp [setWindowScript, List.all_append, List.all_flatMap, emitFrame_isInner, SubOp.isInner]
  have hpayload : (payloadScript c r src).all SubOp.isInner = true := by
    simp only [payloadScript, List.all_flatMap, pixelScript_isInner, List.all_eq_true, implies_true]
  simp only [streamScript, List.all_append, hwindow, hpayload]
  rfl

theorem any_isReturn_of_isInner {ops : List SubOp} (h : ops.all SubOp.isInner = true) :
    ops.any SubOp.isReturn = false := by
  rw [List.any_eq_false]
  intro op hop
  simp [SubOp.not_isReturn_of_isInner (List.all_eq_true.1 h op hop)]

/-- No script returns before its end (R34, R197). -/
theorem Body.any_isReturn {s : State} {i : Instr} {body : List SubOp} (h : Body s i body) :
    body.any SubOp.isReturn = false := by
  cases h with
  | attachFailed | attach | detach | hardReset | initPanel | streamRejected | setRate | rateRejected => rfl
  | @sendCommand cmd =>
    rw [List.any_append, any_isReturn_of_isInner (emitFrame_isInner cmd)]
    cases cmd <;> rfl
  | stream => exact any_isReturn_of_isInner (streamScript_isInner ..)

/-! ### The phase a script leaves -/

/-- The phase a sub-step leaves (R28). -/
def SubOp.phaseAfter (p : Phase) : SubOp → Phase
  | .setPhase q => q
  | .release => .detached
  | _ => p

theorem runOp_phase (op : SubOp) (s : State) : (runOp op s).phase = op.phaseAfter s.phase := by
  cases op with
  | setMode | setLine | bus | busPixel | delay => exact (runOp_event_frame rfl s).1
  | ret reply => cases reply <;> rfl
  | _ => rfl

/-- A script without a fault leaves the phase its last assignment says. -/
theorem runScript_phase {ops : List SubOp} {s : State} (h : (runScript ops s).fault = none) :
    (runScript ops s).phase = ops.foldl SubOp.phaseAfter s.phase := by
  induction ops generalizing s with
  | nil => rfl
  | cons op ops ih =>
    cases hf : (runOp op s).fault with
    | some f => simp [runScript, hf] at h
    | none =>
      rw [runScript_cons hf] at h ⊢
      rw [ih h, runOp_phase, List.foldl_cons]

theorem foldl_phaseAfter_of_isInner {ops : List SubOp} (h : ops.all SubOp.isInner = true) (p : Phase) :
    ops.foldl SubOp.phaseAfter p = p := by
  induction ops with
  | nil => rfl
  | cons op ops ih =>
    obtain ⟨hop, hops⟩ := Bool.and_eq_true_iff.1 h
    have hp : op.phaseAfter p = p := by
      cases op with
      | setPhase | release => cases hop
      | _ => rfl
    rw [List.foldl_cons, hp, ih hops]

/-- The phase a request leaves when it raises no fault: the table of R28. -/
def phaseByTable (i : Instr) (p : Phase) : Phase :=
  match i with
  | .attach cfg => if cfg.allocOk = true ∧ cfg.gpioMapOk = true then .configured else .detached
  | .detach => .detached
  | .hardReset => .configured
  | .sendCommand .reset => .configured
  | .initPanel => .initialized
  | _ => p

theorem phaseByTable_of_streamsPixels {i : Instr} (h : streamsPixels i = true) (p : Phase) : phaseByTable i p = p := by
  cases i with
  | transferRegion | fillRegion | transferFullFrame | refreshTick => rfl
  | _ => cases h

/-- The script of a request assigns the phase the table says, or none where the table says none. -/
theorem Body.phase {s : State} {i : Instr} {body : List SubOp} (h : Body s i body) :
    body.foldl SubOp.phaseAfter s.phase = phaseByTable i s.phase := by
  cases h with
  | attachFailed hphase hfails => simp [phaseByTable, hfails, hphase]
  | attach hcfg hphase hworks => rw [phaseByTable, if_pos hworks, List.foldl_append]; rfl
  | detach => rfl
  | hardReset => rfl
  | initPanel => rfl
  | @sendCommand cmd =>
    rw [List.foldl_append, foldl_phaseAfter_of_isInner (emitFrame_isInner cmd)]
    cases cmd <;> rfl
  | stream hi => rw [foldl_phaseAfter_of_isInner (streamScript_isInner ..), phaseByTable_of_streamsPixels hi]
  | streamRejected hi => rw [phaseByTable_of_streamsPixels hi]; rfl
  | setRate => rfl
  | rateRejected => rfl

theorem phase_of_script {s : State} {i : Instr} {body : List SubOp} {reply : Option Reply} (h : Body s i body)
    (hf : (runWhole (body ++ [.ret reply]) s).fault = none) :
    (runWhole (body ++ [.ret reply]) s).phase = phaseByTable i s.phase := by
  rw [runWhole] at hf ⊢
  rw [runScript_phase hf, List.foldl_append]
  exact h.phase

/-- A request taken in by an Idle engine leaves the phase of the table unless it raises a fault. -/
theorem phase_of_exec {s t : State} {i : Instr} {plan : Plan} (hidle : s.engine = .idle)
    (hplan : enginePlan i s = some plan) (h : exec i s = .next t) (hf : t.fault = none) :
    t.phase = phaseByTable i s.phase := by
  have hplanned := planned_of_enginePlan hplan
  rw [exec_of_enginePlan hplan] at h
  cases hplanned with
  | refuse => cases h
  | fault =>
    simp only [presentEngine, hidle, reduceCtorEq, if_false] at h
    cases h
    cases hf
  | script hbody =>
    simp only [presentEngine, hidle, reduceCtorEq, if_false] at h
    cases h
    exact phase_of_script hbody hf

/-- What the buffer port does leaves the phase. -/
theorem Performed.phase {s t : State} {i : Instr} (hi : IsRequest i) (h : Performed s i t) : t.phase = s.phase := by
  cases h with
  | ran ops hnot => exact absurd hi hnot
  | _ => rfl

theorem phaseByTable_of_no_plan {i : Instr} {s : State} (h : enginePlan i s = none) (p : Phase) :
    phaseByTable i p = p := by
  cases i with
  | attach | detach | hardReset | sendCommand | initPanel => cases h
  | _ => rfl

/-- Settles O52: a request with a plan leaves what its script assigns last, and the others assign no phase. -/
theorem phaseMovesByTheTable : Obligations.PhaseMovesByTheTable := by
  intro i s t ⟨hfault, hidle⟩ hi hexec hf
  show t.phase = phaseByTable i s.phase
  cases hplan : enginePlan i s with
  | none => rw [phaseByTable_of_no_plan hplan, (performed_of_exec hplan hexec).phase hi]
  | some plan => exact phase_of_exec hidle hplan hexec hf

end Sys2Proof.Machine
end

section
/-! PROOF. The canonical form of the buffer is canonical (spec/10_state.md R32): equal contents are equal lists. -/

namespace Sys2Proof.Machine

open Sys2Proof

theorem Memory.read_head (a : Nat) (b : Byte) (m : Memory) : Memory.read ((a, b) :: m) a = b := by
  simp [Memory.read_cons]

/-- A canonical list that reads blank everywhere lists nothing. -/
theorem Memory.eq_nil_of_read {lo : Nat} {m : Memory} (h : Memory.wfFrom lo m = true)
    (hread : ∀ a, m.read a = Memory.blank) : m = [] := by
  cases m with
  | nil => rfl
  | cons cell m =>
    obtain ⟨a, b⟩ := cell
    obtain ⟨-, hb, -⟩ := (Memory.wfFrom_cons ..).1 h
    exact absurd ((Memory.read_head a b m).symm.trans (hread a)) hb

/-- Of two canonical lists that read equal, neither begins after the other: its first byte is no blank. -/
theorem Memory.head_le {a a' : Nat} {b b' : Byte} {m m' : Memory} (hb : b ≠ Memory.blank)
    (hm' : Memory.wfFrom (a' + 1) m' = true) (hread : Memory.read ((a, b) :: m) a = Memory.read ((a', b') :: m') a) :
    a' ≤ a := by
  by_contra hlt
  rw [Memory.read_head, Memory.read_cons, if_neg (by omega), Memory.read_of_lt hm' (by omega)] at hread
  exact hb hread

theorem Memory.eq_of_read {lo : Nat} {m m' : Memory} (h : Memory.wfFrom lo m = true) (h' : Memory.wfFrom lo m' = true)
    (hread : ∀ a, m.read a = m'.read a) : m = m' := by
  induction m generalizing lo m' with
  | nil => exact (Memory.eq_nil_of_read h' fun a => (hread a).symm).symm
  | cons cell m ih =>
    cases m' with
    | nil => exact Memory.eq_nil_of_read h hread
    | cons cell' m' =>
      obtain ⟨a, b⟩ := cell
      obtain ⟨a', b'⟩ := cell'
      obtain ⟨-, hb, hm⟩ := (Memory.wfFrom_cons ..).1 h
      obtain ⟨-, hb', hm'⟩ := (Memory.wfFrom_cons ..).1 h'
      obtain rfl : a = a' :=
        Nat.le_antisymm (Memory.head_le hb' hm (hread a').symm) (Memory.head_le hb hm' (hread a))
      obtain rfl : b = b' := by simpa only [Memory.read_head] using hread a
      have htail (x : Nat) : Memory.read m x = Memory.read m' x := by
        by_cases hx : a = x
        · subst hx
          rw [Memory.read_of_lt hm (Nat.lt_succ_self a), Memory.read_of_lt hm' (Nat.lt_succ_self a)]
        · simpa only [Memory.read_cons, if_neg hx] using hread x
      rw [ih hm hm' htail]

/-- Settles O58, by induction over both lists: their first addresses and bytes agree, and so do the rests. -/
theorem canonicalBuffersAreEqualWhenTheyReadEqual : Obligations.CanonicalBuffersAreEqualWhenTheyReadEqual := by
  intro m m' h h' hread
  exact Memory.eq_of_read h h' hread

end Sys2Proof.Machine
end

section
/-! PROOF. How a step begins (spec/10_state.md R36, R41, R43): at reset, after a fault, at a host's turn, and at the engine
port. -/

namespace Sys2Proof.Machine

open Sys2Proof

/-- Settles O7: each field is given in the initial state, which has no schedule and no hosts, so nothing moves. -/
theorem resetIsTheInitialState : Obligations.ResetIsTheInitialState :=
  ⟨rfl, rfl, rfl, rfl, rfl, rfl, rfl, rfl, rfl, rfl, rfl, rfl, rfl⟩

/-- Settles O8: the initial state is at rest, Detached. -/
theorem resetMeetsTheInvariant : Obligations.ResetMeetsTheInvariant := by
  unfold Obligations.ResetMeetsTheInvariant
  decide

/-- After a fault the step is the fault (R259). -/
theorem step_of_fault {s : State} {f : Fault} (h : s.fault = some f) : step s = .fault f := by
  simp only [step, move, h]

/-- Settles O14. -/
theorem noAgentStepsAfterAFault : Obligations.NoAgentStepsAfterAFault := fun _ _ => step_of_fault

/-- With a turn in the schedule and no fault, the step is that turn. -/
theorem step_of_turn {s : State} {turn : Turn} {rest : List Turn} (hf : s.fault = none)
    (hschedule : s.schedule = turn :: rest) : step s = takeTurn turn rest s := by
  simp only [step, move, hf, hschedule]

/-- With an empty schedule and no fault, the step is the default turn. -/
theorem step_of_no_turn {s : State} (hf : s.fault = none) (hschedule : s.schedule = []) : step s = defaultTurn s := by
  simp only [step, move, hf, hschedule]

/-! ### A host's turn -/

/-- A host that is not waiting presents its next operation. -/
theorem step_of_host_turn {s : State} {k : Nat} {view : View} {rest : List Turn} {op : HostOp} {ops : List HostOp}
    (hf : s.fault = none) (hschedule : s.schedule = .present (.host k) view :: rest) (hwaiting : s.waiting k = false)
    (hhost : s.hosts[k]? = some (op :: ops)) :
    step s = presentOp view k op ops { s with schedule := rest, hosts := s.hosts.set k ops, caller := .host k } := by
  have hwaiting' : (s.setSchedule rest).waiting k = false := hwaiting
  have hhost' : (s.setSchedule rest).hosts[k]? = some (op :: ops) := hhost
  rw [step_of_turn hf hschedule]
  simp only [takeTurn, presentNext, hwaiting', hhost']
  rfl

/-- Settles O12: a host's turn presents its request, which the port takes or refuses; in the whole view, and where the
request has no plan, issuing it is `exec`. -/
theorem stepRunsThePresentedRequest : Obligations.StepRunsThePresentedRequest := by
  intro s k view rest i ops hf hschedule hwaiting hhost
  have hstep := step_of_host_turn hf hschedule hwaiting hhost
  refine ⟨fun haccepted => ?_, fun hrefused => ?_⟩
  · have hissue : step s = issue view i { s with schedule := rest, hosts := s.hosts.set k ops, caller := .host k } := by
      rw [hstep, presentOp, if_pos haccepted]
    refine ⟨hissue, ?_⟩
    rintro (rfl | hengine)
    · exact hissue
    · rw [hissue, issue_of_not_engine hengine]
  · rw [hstep, presentOp, if_neg (by simp [hrefused])]

/-! ### The engine port -/

/-- A well-formed engine request is not refused by its form (R103, R260): its plan is a fault or a script. -/
theorem enginePlan_of_wellFormed {i : Instr} (hengine : i.isEngineRequest = true) (hwf : i.wellFormed = true)
    (s : State) : ∃ plan, enginePlan i s = some plan ∧ ∀ r, plan ≠ .refuse r := by
  obtain ⟨plan, hplan⟩ := enginePlan_of_isEngineRequest hengine s
  refine ⟨plan, hplan, ?_⟩
  rintro r rfl
  cases planned_of_enginePlan hplan with
  | refuse hform => exact Bool.false_ne_true (hform.symm.trans hwf)

/-- What is not refused is held while the engine is Busy (R36). -/
theorem presentEngine_busy {view : View} {i : Instr} {plan : Plan} {s : State} (hplan : ∀ r, plan ≠ .refuse r)
    (hbusy : s.engine = .busy) : presentEngine view i plan s = .next (s.holdEngine i) := by
  cases plan with
  | refuse r => exact absurd rfl (hplan r)
  | fault f => simp only [presentEngine, if_pos hbusy]
  | script ops => simp only [presentEngine, if_pos hbusy]

/-- A Busy engine serves nothing; an Idle one takes the request in. -/
theorem serveEngine_of_held {s : State} {n : Nat} {view : View} {h : Held} (hheld : s.enginePort[n]? = some h) :
    serveEngine n view s = if s.engine = .busy then .next s
      else issue view h.request { s with enginePort := s.enginePort.eraseIdx n, caller := h.agent } := by
  simp only [serveEngine, hheld]
  rfl

theorem step_of_serve_turn {s : State} {n : Nat} {view : View} {rest : List Turn} {h : Held} (hf : s.fault = none)
    (hschedule : s.schedule = .serveEngine n view :: rest) (hheld : s.enginePort[n]? = some h) :
    step s = if s.engine = .busy then .next { s with schedule := rest }
      else issue view h.request
        { s with schedule := rest, enginePort := s.enginePort.eraseIdx n, caller := h.agent } := by
  rw [step_of_turn hf hschedule]
  exact serveEngine_of_held (s := s.setSchedule rest) hheld

theorem step_of_held_by_default {s : State} {h : Held} {held : List Held} (hready : s.ready)
    (hschedule : s.schedule = []) (hbuffer : s.bufferPort = []) (hport : s.enginePort = h :: held) :
    step s = exec h.request { s with enginePort := held, caller := h.agent } := by
  obtain ⟨hf, hidle⟩ := hready
  have hfirst : s.enginePort[0]? = some h := by rw [hport]; rfl
  rw [step_of_no_turn hf hschedule]
  simp [defaultTurn, hidle, hbuffer, hport, serveEngine_of_held hfirst, issue_whole]

/-- Settles O18. -/
theorem busyEngineHoldsRequests : Obligations.BusyEngineHoldsRequests := by
  refine ⟨?_, ?_, fun s h held => step_of_held_by_default⟩
  · intro i s hbusy hengine hwf
    obtain ⟨plan, hplan, hnot⟩ := enginePlan_of_wellFormed hengine hwf s
    rw [exec_of_enginePlan hplan]
    exact presentEngine_busy hnot hbusy
  · intro s n view rest h hf hschedule hheld
    have hstep := step_of_serve_turn hf hschedule hheld
    refine ⟨fun hbusy => ?_, fun hidle => ?_, fun hidle hview => ?_⟩
    · rw [hstep, if_pos hbusy]
    · rw [hstep, if_neg (by simp [hidle])]
    · rw [hstep, if_neg (by simp [hidle]), hview, issue_whole]

end Sys2Proof.Machine
end

section
/-! PROOF. What the course of a script depends on (spec/10_state.md R34): of the buffer only that there is one, of the data lines
only whether they are driven, and nothing of the ghosts, the trace, the ports and the environment. So nobody who moves in the
middle of a request changes where its script leads. -/

namespace Sys2Proof.Machine

open Sys2Proof

/-! ### Data lines -/

/-- Whether a line is driven, and not to which level. -/
def Level.blank : Level → Level
  | .undriven => .undriven
  | .low | .high => .low

@[simp] theorem Level.blank_blank (v : Level) : v.blank.blank = v.blank := by cases v <;> rfl

@[simp] theorem Level.blank_ofBool (v : Bool) : (Level.ofBool v).blank = .low := by cases v <;> rfl

@[simp] theorem Level.blank_eq_undriven (v : Level) : v.blank = .undriven ↔ v = .undriven := by cases v <;> simp [blank]

/-- The levels with the values on the data lines blanked out. -/
def blankData (f : ByLine Level) : ByLine Level :=
  { f with
    d0 := f.d0.blank, d1 := f.d1.blank, d2 := f.d2.blank, d3 := f.d3.blank
    d4 := f.d4.blank, d5 := f.d5.blank, d6 := f.d6.blank, d7 := f.d7.blank }

@[simp] theorem blankData_blankData (f : ByLine Level) : blankData (blankData f) = blankData f := by simp [blankData]

@[simp] theorem blankData_set (f : ByLine Level) (l : Line) (a : Level) :
    blankData ((blankData f).set l a) = blankData (f.set l a) := by
  cases l <;> simp [blankData, ByLine.set]

/-- Which byte is driven does not matter. -/
theorem blankData_driveByte (f : ByLine Level) (b b' : Byte) :
    blankData ((blankData f).driveByte b') = blankData (f.driveByte b) := by
  simp [blankData, ByLine.driveByte]

theorem blankData_get (f : ByLine Level) (l : Line) : (blankData f).get l = .undriven ↔ f.get l = .undriven := by
  cases l <;> simp [blankData, ByLine.get]

theorem blankData_eq_undriven (f : ByLine Level) :
    blankData f = ByLine.const .undriven ↔ f = ByLine.const .undriven := by
  obtain ⟨d0, d1, d2, d3, d4, d5, d6, d7, dc, cs, rd, wr, rst⟩ := f
  simp [blankData, ByLine.const]

/-! ### The core of a state -/

/-- Whether there is a buffer, and not what it holds. -/
def blankBuffer : Option Memory → Option Memory
  | none => none
  | some _ => some []

@[simp] theorem blankBuffer_blankBuffer (m : Option Memory) : blankBuffer (blankBuffer m) = blankBuffer m := by
  cases m <;> rfl

@[simp] theorem blankBuffer_isSome (m : Option Memory) : (blankBuffer m).isSome = m.isSome := by cases m <;> rfl

@[simp] theorem blankBuffer_isNone (m : Option Memory) : (blankBuffer m).isNone = m.isNone := by cases m <;> rfl

/-- What the course of a script depends on; the rest is blanked out. -/
def State.core (s : State) : State :=
  { s with
    level := blankData s.level
    buffer := blankBuffer s.buffer
    lastCol := none, lastRow := none, trace := [], script := [], enginePort := [], bufferPort := [], returned := []
    hosts := [], caller := .timer, schedule := [] }

theorem fault_of_core {s u : State} (h : u.core = s.core) : u.fault = s.fault := congrArg (·.fault) h

theorem core_atRest (s : State) : s.core.atRest = s.atRest := by
  have hdetached : s.core.detachedRest = s.detachedRest := by
    simp [State.detachedRest, State.core, beq_eq_decide, blankData_eq_undriven]
  have hattached : s.core.attachedRest = s.attachedRest := by
    simp [State.attachedRest, State.core, bne, beq_eq_decide, blankData_get]
    rfl
  simp only [State.atRest, hdetached, hattached]
  rfl

theorem atRest_of_core {s u : State} (h : u.core = s.core) : u.atRest = s.atRest := by
  rw [← core_atRest, h, core_atRest]

/-! ### Scripts and cores -/

theorem setLineOp_core (l : Line) (v : Bool) (s : State) : (setLineOp l v s.core).core = (setLineOp l v s).core := by
  unfold setLineOp
  rw [show s.core.mode = s.mode from rfl]
  split <;> simp [State.core, State.driveLine, State.raise]

theorem busOp_core (b b' : Byte) (s : State) : (busOp b' s.core).core = (busOp b s).core := by
  unfold busOp
  rw [show s.core.mode = s.mode from rfl]
  split <;> simp [State.core, State.driveBus, State.raise, blankData_driveByte _ b b']

/-- There is a byte at an offset or not, whatever the bytes are. -/
theorem bufferByte_core (s : State) (off : Nat) : (s.core.bufferByte off).isSome = (s.bufferByte off).isSome := by
  unfold State.bufferByte
  rw [show s.core.buffer = blankBuffer s.buffer from rfl, show s.core.cfg = s.cfg from rfl]
  cases s.buffer with
  | none => rfl
  | some m => simp only [blankBuffer]; split <;> rfl

theorem busPixelOp_core (off : Nat) (s : State) : (busPixelOp off s.core).core = (busPixelOp off s).core := by
  have hsome := bufferByte_core s off
  unfold busPixelOp
  cases hb : s.bufferByte off with
  | none =>
    rw [hb, Option.isSome_none, Option.isSome_eq_false_iff, Option.isNone_iff_eq_none] at hsome
    simp only [hsome]
    simp [State.core, State.raise]
  | some b =>
    obtain ⟨b', hb'⟩ := Option.isSome_iff_exists.1 (hsome.trans (by rw [hb]; rfl))
    simp only [hb', busOp_core b b']

/-- What a sub-step does to the core depends on the core only. -/
theorem runOp_core (op : SubOp) (s : State) : (runOp op s.core).core = (runOp op s).core := by
  cases op with
  | setLine l v => exact setLineOp_core l v s
  | bus b => exact busOp_core b b s
  | busPixel off => exact busPixelOp_core off s
  | allocate cfg => simp [runOp, State.core, State.allocate]
  | release => simp [runOp, State.core, State.release]
  | ret reply => cases reply <;> simp [runOp, State.core, State.finish, State.setEngine, State.reply]
  | setMode l => simp [runOp, State.core, State.configureLine]
  | delay ms => simp [runOp, State.core, State.emit]
  | setPhase p => simp [runOp, State.core, State.setPhase]
  | setTimer v => simp [runOp, State.core, State.setTimer]
  | setRate hz => simp [runOp, State.core, State.setRate]
  | setLock l => simp [runOp, State.core, State.setLock]
  | setLastCol v => simp [runOp, State.core, State.setLastCol]
  | setLastRow v => simp [runOp, State.core, State.setLastRow]
  | setPending n => simp [runOp, State.core, State.setPending]
  | decPending => simp [runOp, State.core, State.setPending]

theorem runOp_of_core {s u : State} (op : SubOp) (h : u.core = s.core) : (runOp op u).core = (runOp op s).core := by
  rw [← runOp_core, h, runOp_core]

/-- From equal cores a script leads to equal cores. -/
theorem runScript_of_core {s u : State} (ops : List SubOp) (h : u.core = s.core) :
    (runScript ops u).core = (runScript ops s).core := by
  induction ops generalizing s u with
  | nil => exact h
  | cons op ops ih =>
    have hop := runOp_of_core op h
    simp only [runScript, fault_of_core hop]
    split
    · exact hop
    · exact ih hop

/-- Whether a state is in the middle of a request depends on its core and on what is left of the script. -/
theorem midway_of_core {s u : State} (hscript : u.script = s.script) (h : u.core = s.core) : u.midway = s.midway := by
  have hend := runScript_of_core s.script h
  simp only [State.midway, hscript, fault_of_core hend, atRest_of_core hend]

/-- In the middle of a request with `ops` left of its script. -/
theorem midway_setScript (ops : List SubOp) (s : State) : (s.setScript ops).midway = true ↔
    endsInReturn ops = true ∧ (runScript ops s).fault = none ∧ (runScript ops s).atRest = true := by
  have hend : (runScript ops (s.setScript ops)).core = (runScript ops s).core := runScript_of_core ops rfl
  simp [State.midway, fault_of_core hend, atRest_of_core hend, and_assoc]

end Sys2Proof.Machine
end

section
/-! PROOF. The invariant in parts (spec/10_state.md R34, R36; spec/43_pixel_streamer.md R197): what it says of a state without a
fault, what keeps it, and that a first part of a running script leaves the state midway or at rest. -/

namespace Sys2Proof.Machine

open Sys2Proof

/-! ### The parts of the invariant -/

/-- A state with a fault says nothing (R259). -/
theorem inv_of_fault {s : State} {f : Fault} (h : s.fault = some f) : s.inv = true := by
  simp [State.inv, h]

/-- What the invariant says of a state without a fault. -/
theorem inv_iff {s : State} (hf : s.fault = none) : s.inv = true ↔
    s.bufferOk = true ∧ s.portsOk = true
      ∧ (s.engine = .idle ∧ s.script = [] ∧ s.atRest = true ∨ s.engine = .busy ∧ s.midway = true) := by
  cases he : s.engine <;> simp [State.inv, hf, he, and_assoc]

theorem portsOk_iff (s : State) : s.portsOk = true ↔
    (∀ h ∈ s.enginePort, h.request.isEngineRequest = true) ∧ ∀ h ∈ s.bufferPort, h.request.isHostWrite = true := by
  simp [State.portsOk]

/-- Whoever leaves the core and the script alone keeps the invariant if the buffer and the ports stay well. -/
theorem inv_of_core {s u : State} (hs : s.inv = true) (hf : s.fault = none) (hcore : u.core = s.core)
    (hscript : u.script = s.script) (hbuffer : u.bufferOk = true) (hports : u.portsOk = true) : u.inv = true := by
  have hengine : u.engine = s.engine := congrArg (·.engine) hcore
  obtain ⟨-, -, hcourse⟩ := (inv_iff hf).1 hs
  rw [inv_iff ((fault_of_core hcore).trans hf), hengine, hscript, atRest_of_core hcore, midway_of_core hscript hcore]
  exact ⟨hbuffer, hports, hcourse⟩

/-- The invariant of an Idle engine. -/
theorem inv_idle {s : State} (hs : s.inv = true) (hf : s.fault = none) (hidle : s.engine = .idle) :
    s.script = [] ∧ s.atRest = true := by
  obtain ⟨-, -, ⟨-, hscript, hrest⟩ | ⟨hbusy, -⟩⟩ := (inv_iff hf).1 hs
  · exact ⟨hscript, hrest⟩
  · simp [hidle] at hbusy

/-! ### Buffer and ports along a script -/

/-- No sub-step spoils the buffer: it replaces it by an empty one or by none, or leaves it. -/
theorem runOp_bufferOk (op : SubOp) {s : State} (h : s.bufferOk = true) : (runOp op s).bufferOk = true := by
  cases hop : op.isEvent with
  | true =>
    obtain ⟨-, -, hbuffer, hcfg⟩ := runOp_event_frame hop s
    simpa only [State.bufferOk, hbuffer, hcfg] using h
  | false =>
    cases op with
    | setMode | setLine | bus | busPixel | delay => cases hop
    | allocate | release => rfl
    | ret reply => cases reply <;> exact h
    | _ => exact h

theorem runScript_bufferOk (ops : List SubOp) {s : State} (h : s.bufferOk = true) :
    (runScript ops s).bufferOk = true := by
  induction ops generalizing s with
  | nil => exact h
  | cons op ops ih =>
    simp only [runScript]
    split
    · exact runOp_bufferOk op h
    · exact ih (runOp_bufferOk op h)

theorem runScript_portsOk (ops : List SubOp) (s : State) : (runScript ops s).portsOk = s.portsOk := by
  obtain ⟨-, hengine, hbuffer, -⟩ := runScript_frame ops s
  simp only [State.portsOk, hengine, hbuffer]

/-! ### Returns -/

/-- Only a return makes the engine Idle (R36). -/
theorem runOp_engine {op : SubOp} (h : op.isReturn = false) (s : State) : (runOp op s).engine = s.engine := by
  cases op with
  | setMode | setLine | bus | busPixel | delay => exact (runOp_event_frame rfl s).2.1
  | ret => cases h
  | _ => rfl

theorem runScript_engine {ops : List SubOp} (h : ops.any SubOp.isReturn = false) (s : State) :
    (runScript ops s).engine = s.engine := by
  induction ops generalizing s with
  | nil => rfl
  | cons op ops ih =>
    obtain ⟨hop, hops⟩ := Bool.or_eq_false_iff.1 h
    simp only [runScript]
    split
    · exact runOp_engine hop s
    · exact (ih hops _).trans (runOp_engine hop s)

theorem endsInReturn_cons (op : SubOp) {ops : List SubOp} (h : ops ≠ []) :
    endsInReturn (op :: ops) = (!op.isReturn && endsInReturn ops) := by
  cases ops with
  | nil => exact absurd rfl h
  | cons op' ops => rfl

/-- The second part of a script returns at its end and only there, and the first not at all. -/
theorem endsInReturn_append {as bs : List SubOp} (hbs : bs ≠ []) :
    endsInReturn (as ++ bs) = (!as.any SubOp.isReturn && endsInReturn bs) := by
  induction as with
  | nil => rfl
  | cons op as ih =>
    rw [List.cons_append, endsInReturn_cons op (by simp [hbs]), ih, List.any_cons, Bool.not_or, Bool.and_assoc]

theorem endsInReturn_append_ret {body : List SubOp} (h : body.any SubOp.isReturn = false) (reply : Option Reply) :
    endsInReturn (body ++ [.ret reply]) = true := by
  rw [endsInReturn_append (by simp), h]
  rfl

/-! ### A first part of a running script -/

theorem engine_of_atRest {s : State} (h : s.atRest = true) : s.engine = .idle := by
  simp only [State.atRest, Bool.and_eq_true, beq_iff_eq] at h
  obtain ⟨⟨⟨hidle, -⟩, -⟩, -⟩ := h
  exact hidle

/-- A first part of a running script leads to the rest of it, or, where there is no rest, to a state at rest. -/
theorem inv_of_part {s : State} {as bs : List SubOp} (hs : s.inv = true) (hf : s.fault = none)
    (hbusy : s.engine = .busy) (hparts : as ++ bs = s.script) : ((runScript as s).setScript bs).inv = true := by
  obtain ⟨hbuffer, hports, ⟨hidle, -⟩ | ⟨-, hmidway⟩⟩ := (inv_iff hf).1 hs
  · simp [hbusy] at hidle
  rw [← setScript_script s, midway_setScript] at hmidway
  obtain ⟨hends, hendFault, hendRest⟩ := hmidway
  obtain ⟨hpartFault, hrest⟩ := runScript_parts hparts hf hendFault
  rw [← hrest] at hendFault hendRest
  rw [← hparts] at hends
  refine (inv_iff (s := (runScript as s).setScript bs) hpartFault).2
    ⟨runScript_bufferOk as hbuffer, (runScript_portsOk as s).trans hports, ?_⟩
  by_cases hbs : bs = []
  · subst hbs
    exact .inl ⟨engine_of_atRest hendRest, rfl, (atRest_of_core rfl).trans hendRest⟩
  · rw [endsInReturn_append hbs, Bool.and_eq_true, Bool.not_eq_true'] at hends
    obtain ⟨hnone, hends⟩ := hends
    exact .inr ⟨(runScript_engine hnone s).trans hbusy, (midway_setScript ..).2 ⟨hends, hendFault, hendRest⟩⟩

/-- The engine's move keeps the invariant. -/
theorem inv_engineMove {s : State} (hs : s.inv = true) (hf : s.fault = none) (hbusy : s.engine = .busy) :
    (engineMove s).inv = true := by
  rw [engineMove, runScript_setScript]
  exact inv_of_part hs hf hbusy (oneEvent_append_afterEvent s.script)

/-- A state from which a script starts: the engine Busy, and the script before it. -/
def State.started (s : State) (ops : List SubOp) : State := (s.setEngine .busy).setScript ops

section
variable {s : State} {ops : List SubOp} (hs : s.inv = true) (hf : s.fault = none)
  (hstart : (s.started ops).midway = true)
include hs hf hstart

theorem inv_started : (s.started ops).inv = true := by
  obtain ⟨hbuffer, hports, -⟩ := (inv_iff hf).1 hs
  exact (inv_iff (s := s.started ops) hf).2 ⟨hbuffer, hports, .inr ⟨rfl, hstart⟩⟩

/-- A script begun keeps the invariant if it leads to a state at rest. -/
theorem inv_beginScript : (beginScript ops s).inv = true := by
  rw [show beginScript ops s = (runScript (leading ops) (s.started ops)).setScript (fromEvent ops) by
    rw [beginScript_eq, State.started, runScript_setScript, setScript_setScript]]
  exact inv_of_part (inv_started hs hf hstart) hf rfl (leading_append_fromEvent ops)

/-- So does a script run whole. -/
theorem inv_runWhole (hscript : s.script = []) : (runWhole ops s).inv = true := by
  have hleft : (runWhole ops s).script = [] := (runScript_frame ops (s.setEngine .busy)).1.trans hscript
  rw [show runWhole ops s = (runScript ops (s.started ops)).setScript [] by
    rw [State.started, runScript_setScript, setScript_setScript, ← hleft]; rfl]
  exact inv_of_part (inv_started hs hf hstart) hf rfl (List.append_nil ops)

end

end Sys2Proof.Machine
end

section
/-! PROOF. Where the scripts of the requests lead (spec/10_state.md R28, spec/40_bus_lines.md R128, spec/43_pixel_streamer.md
R196, R197): frames, delays and streams leave an attached panel as it was between requests, and each request ends at rest. -/

namespace Sys2Proof.Machine

open Sys2Proof

/-! ### Levels between requests -/

/-- Every line driven, CS low and RD, WR and RST high (R128). -/
structure LevelsAtRest (f : ByLine Level) : Prop where
  driven : ∀ l, f.get l ≠ .undriven
  cs : f.cs = .low
  rd : f.rd = .high
  wr : f.wr = .high
  rst : f.rst = .high

theorem Level.ofBool_ne_undriven (v : Bool) : Level.ofBool v ≠ .undriven := by cases v <;> simp [Level.ofBool]

theorem get_set_driven {f : ByLine Level} (h : ∀ l, f.get l ≠ .undriven) (l : Line) (v : Bool) (l' : Line) :
    (f.set l (Level.ofBool v)).get l' ≠ .undriven := by
  by_cases hl : l' = l
  · subst hl
    rw [ByLine.get_set_same]
    exact Level.ofBool_ne_undriven v
  · rw [ByLine.get_set_other f l l' _ hl]
    exact h l'

theorem get_driveByte_driven {f : ByLine Level} (h : ∀ l, f.get l ≠ .undriven) (b : Byte) (l : Line) :
    (f.driveByte b).get l ≠ .undriven := by
  cases l with
  | d0 | d1 | d2 | d3 | d4 | d5 | d6 | d7 => exact Level.ofBool_ne_undriven _
  | dc => exact h .dc
  | cs => exact h .cs
  | rd => exact h .rd
  | wr => exact h .wr
  | rst => exact h .rst

/-- A bus write cycle ends with the levels between requests. -/
theorem LevelsAtRest.afterWord {f : ByLine Level} (h : LevelsAtRest f) (w : BusWord) :
    LevelsAtRest (levelsAfterWord f w) :=
  ⟨get_set_driven (get_driveByte_driven (get_set_driven h.driven .dc _) _) .wr true, h.cs, h.rd, rfl, h.rst⟩

theorem LevelsAtRest.afterWords {f : ByLine Level} (h : LevelsAtRest f) (ws : List BusWord) :
    LevelsAtRest (ws.foldl levelsAfterWord f) := by
  induction ws generalizing f with
  | nil => exact h
  | cons w ws ih => exact ih (h.afterWord w)

theorem attachedRest_iff (s : State) : s.attachedRest = true ↔
    s.linesUp ∧ LevelsAtRest s.level ∧ s.buffer.isSome = true ∧ s.cfg.ok = true ∧ rateLegal s.refreshHz s.cfg = true := by
  have hall : (Line.all.all fun l => s.level.get l != .undriven) = true ↔ ∀ l, s.level.get l ≠ .undriven := by
    simp only [List.all_eq_true, bne_iff_ne]
    exact ⟨fun h l => h l (by cases l <;> decide), fun h l _ => h l⟩
  simp only [State.attachedRest, Bool.and_eq_true, beq_iff_eq, hall]
  constructor
  · rintro ⟨⟨⟨⟨⟨⟨⟨⟨hmode, hdriven⟩, hcs⟩, hrd⟩, hwr⟩, hrst⟩, hbuffer⟩, hcfg⟩, hrate⟩
    exact ⟨hmode, ⟨hdriven, hcs, hrd, hwr, hrst⟩, hbuffer, hcfg, hrate⟩
  · rintro ⟨hmode, ⟨hdriven, hcs, hrd, hwr, hrst⟩, hbuffer, hcfg, hrate⟩
    exact ⟨⟨⟨⟨⟨⟨⟨⟨hmode, hdriven⟩, hcs⟩, hrd⟩, hwr⟩, hrst⟩, hbuffer⟩, hcfg⟩, hrate⟩

/-! ### An attached panel -/

/-- Attached in phase `p` as between requests, whatever the engine is. -/
structure Up (p : Phase) (s : State) : Prop where
  noFault : s.fault = none
  attached : s.attachedRest = true
  lock : s.lock = .free
  pending : s.streamPending = 0
  phase : s.phase = p
  timer : p = .initialized → s.timerArmed = true

theorem Up.linesUp {p : Phase} {s : State} (h : Up p s) : s.linesUp := ((attachedRest_iff s).1 h.attached).1

/-- A state at rest that is not Detached. -/
theorem up_of_atRest {s : State} (hf : s.fault = none) (h : s.atRest = true) (hphase : s.phase ≠ .detached) :
    Up s.phase s := by
  simp only [State.atRest, Bool.and_eq_true, beq_iff_eq] at h
  obtain ⟨⟨⟨-, hlock⟩, hpending⟩, hrest⟩ := h
  cases hp : s.phase with
  | detached => exact absurd hp hphase
  | configured =>
    rw [hp] at hrest
    exact ⟨hf, hrest, hlock, hpending, hp, by simp⟩
  | initialized =>
    rw [hp] at hrest
    obtain ⟨hattached, htimer⟩ := Bool.and_eq_true_iff.1 hrest
    exact ⟨hf, hattached, hlock, hpending, hp, fun _ => htimer⟩

/-- Attached, it is at rest once the engine is Idle. -/
theorem Up.atRest {p : Phase} {s : State} (h : Up p s) (hp : p ≠ .detached) (hidle : s.engine = .idle) :
    s.atRest = true := by
  obtain ⟨-, hattached, hlock, hpending, hphase, htimer⟩ := h
  cases p with
  | detached => exact absurd rfl hp
  | configured => simp [State.atRest, hidle, hlock, hpending, hphase, hattached]
  | initialized => simp [State.atRest, hidle, hlock, hpending, hphase, hattached, htimer]

/-- The engine is left out of it, so that it can be said of a panel in the middle of a request. -/
theorem Up.setEngine {p : Phase} {s : State} (h : Up p s) (e : Engine) : Up p (s.setEngine e) :=
  ⟨h.noFault, h.attached, h.lock, h.pending, h.phase, h.timer⟩

/-! ### What keeps it attached -/

/-- A script that leaves an attached panel as it was. -/
def KeepsUp (ops : List SubOp) : Prop := ∀ (p : Phase) (s : State), Up p s → Up p (runScript ops s)

theorem KeepsUp.nil : KeepsUp [] := fun _ _ h => h

theorem KeepsUp.append {as bs : List SubOp} (has : KeepsUp as) (hbs : KeepsUp bs) : KeepsUp (as ++ bs) := by
  intro p s h
  rw [runScript_append (has p s h).noFault]
  exact hbs p _ (has p s h)

theorem keepsUp_single {op : SubOp} (h : ∀ p s, Up p s → Up p (runOp op s)) : KeepsUp [op] := by
  intro p s hs
  rw [runScript_single]
  exact h p s hs

theorem keepsUp_delay (ms : Nat) : KeepsUp [.delay ms] :=
  keepsUp_single fun _ _ h => ⟨h.noFault, h.attached, h.lock, h.pending, h.phase, h.timer⟩

theorem keepsUp_setLastCol (v : Option (U16 × U16)) : KeepsUp [.setLastCol v] :=
  keepsUp_single fun _ _ h => ⟨h.noFault, h.attached, h.lock, h.pending, h.phase, h.timer⟩

theorem keepsUp_setLastRow (v : Option (U16 × U16)) : KeepsUp [.setLastRow v] :=
  keepsUp_single fun _ _ h => ⟨h.noFault, h.attached, h.lock, h.pending, h.phase, h.timer⟩

/-- With nothing owed a data word leaves nothing owed. -/
theorem keepsUp_decPending : KeepsUp [.decPending] :=
  keepsUp_single fun _ _ h =>
    ⟨h.noFault, h.attached, h.lock, (congrArg (· - 1) h.pending : _), h.phase, h.timer⟩

theorem Up.sends {p : Phase} {s : State} (h : Up p s) (ws : List BusWord) : Up p (s.sends ws) := by
  obtain ⟨hmode, hlevel, hrest⟩ := (attachedRest_iff s).1 h.attached
  exact ⟨h.noFault, (attachedRest_iff (s.sends ws)).2 ⟨hmode, hlevel.afterWords ws, hrest⟩, h.lock, h.pending, h.phase,
    h.timer⟩

theorem keepsUp_emitWords (ws : List BusWord) : KeepsUp (ws.flatMap emitWord) := by
  intro p s h
  rw [runScript_emitWords ws s h.noFault h.linesUp]
  exact h.sends ws

theorem keepsUp_emitC (b : Byte) : KeepsUp (emitC b) := by
  intro p s h
  rw [runScript_emitC b s h.noFault h.linesUp]
  exact h.sends _

theorem keepsUp_emitD (b : Byte) : KeepsUp (emitD b) := by
  intro p s h
  rw [runScript_emitD b s h.noFault h.linesUp]
  exact h.sends _

theorem keepsUp_emitFrame (cmd : Command) : KeepsUp (emitFrame cmd) := by
  refine (keepsUp_emitWords (encodeCommand cmd)).append ?_
  cases cmd with
  | setColumnAddress start stop => exact keepsUp_setLastCol _
  | setRowAddress start stop => exact keepsUp_setLastRow _
  | _ => exact .nil

/-- RST low and high again, each held (R151). -/
theorem keepsUp_resetPulse (ms : Nat) :
    KeepsUp [.setLine .rst false, .delay ms, .setLine .rst true, .delay ms] := by
  intro p s h
  obtain ⟨hmode, hlevel, hrest⟩ := (attachedRest_iff s).1 h.attached
  have hrun : runScript [.setLine .rst false, .delay ms, .setLine .rst true, .delay ms] s = { s with
      level := (s.level.set .rst .low).set .rst .high
      trace := s.trace ++ [.level .rst false, .delay ms, .level .rst true, .delay ms] } := by
    have hmode' : s.mode = ByLine.const .output := hmode
    simp [runScript, runOp, setLineOp, hmode', h.noFault, State.driveLine, State.emit, Level.ofBool]
  have hlevel' : LevelsAtRest ((s.level.set .rst .low).set .rst .high) :=
    ⟨get_set_driven (get_set_driven hlevel.driven .rst false) .rst true, hlevel.cs, hlevel.rd, hlevel.wr, rfl⟩
  rw [hrun]
  exact ⟨h.noFault, (attachedRest_iff _).2 ⟨hmode, hlevel', hrest⟩, h.lock, h.pending, h.phase, h.timer⟩

/-- A stream inside the panel leaves nothing owed and the lock free (R196, R197). -/
theorem Up.stream {p : Phase} {s : State} (h : Up p s) {r : Rect} (hvalid : r.validIn s.cfg = true)
    (src : PixelSource) : Up p (runScript (streamScript s.cfg r src) s) := by
  obtain ⟨hmode, hlevel, hbuffer, hcfg⟩ := (attachedRest_iff s).1 h.attached
  obtain ⟨m, hm⟩ := Option.isSome_iff_exists.1 hbuffer
  rw [runScript_stream m r src s h.noFault hmode fun q hq _ => ⟨hm, pixOff_in_buffer hvalid hq⟩]
  exact ⟨h.noFault, (attachedRest_iff _).2 ⟨hmode, hlevel.afterWords _, hbuffer, hcfg⟩, rfl, rfl, h.phase, h.timer⟩

/-! ### What moves the phase -/

theorem Up.configured {p : Phase} {s : State} (h : Up p s) : Up .configured (s.setPhase .configured) :=
  ⟨h.noFault, h.attached, h.lock, h.pending, rfl, by simp⟩

theorem Up.initialized {p : Phase} {s : State} (h : Up p s) :
    Up .initialized ((s.setPhase .initialized).setTimer true) :=
  ⟨h.noFault, h.attached, h.lock, h.pending, rfl, fun _ => rfl⟩

/-- The end of a reset: Configured, with no window known (R150, R151). -/
theorem Up.afterReset {p : Phase} {s : State} (h : Up p s) :
    Up .configured (runScript [.setPhase .configured, .setLastCol none, .setLastRow none] s) := by
  rw [runScript_assign rfl h.noFault]
  exact ((keepsUp_setLastCol none).append (keepsUp_setLastRow none)) _ _ h.configured

theorem Up.hardReset {p : Phase} {s : State} (h : Up p s) : Up .configured (runScript hardResetScript s) := by
  have hpulse := keepsUp_resetPulse Config.tResetMinMs p s h
  rw [show hardResetScript = [.setLine .rst false, .delay Config.tResetMinMs, .setLine .rst true,
      .delay Config.tResetMinMs] ++ [.setPhase .configured, .setLastCol none, .setLastRow none] from rfl,
    runScript_append hpulse.noFault]
  exact hpulse.afterReset

/-- The frames, the delays and the forgotten window of INIT_PANEL (R152). -/
def initPanelFrames : List SubOp :=
  emitC 0x01#8 ++ [.delay Config.tCmdDelayMinMs] ++ emitC 0x11#8 ++ [.delay Config.tCmdDelayMinMs] ++ emitC 0x3A#8
    ++ emitD Config.pixfmt565 ++ emitC 0x29#8 ++ [.setLastCol none] ++ [.setLastRow none]

theorem keepsUp_initPanelFrames : KeepsUp initPanelFrames :=
  ((((((((keepsUp_emitC _).append (keepsUp_delay _)).append (keepsUp_emitC _)).append (keepsUp_delay _)).append
    (keepsUp_emitC _)).append (keepsUp_emitD _)).append (keepsUp_emitC _)).append (keepsUp_setLastCol _)).append
    (keepsUp_setLastRow _)

theorem Up.initPanel {p : Phase} {s : State} (h : Up p s) : Up .initialized (runScript initPanelScript s) := by
  have hframes := keepsUp_initPanelFrames p s h
  rw [show initPanelScript = initPanelFrames ++ [.setPhase .initialized, .setTimer true] from rfl,
    runScript_append hframes.noFault, runScript_assign rfl hframes.noFault, runScript_single]
  exact hframes.initialized

/-- SEND_COMMAND leaves the panel attached, Configured after a software reset (R150). -/
theorem Up.sendCommand {p : Phase} {s : State} (h : Up p s) (hp : p ≠ .detached) (cmd : Command) :
    ∃ q, q ≠ .detached ∧ Up q (runScript (emitFrame cmd ++ afterCommand cmd) s) := by
  have hframe := keepsUp_emitFrame cmd p s h
  rw [runScript_append hframe.noFault]
  cases cmd with
  | reset =>
    have hdelay := keepsUp_delay Config.tCmdDelayMinMs p _ hframe
    refine ⟨.configured, by simp, ?_⟩
    rw [show afterCommand .reset = [.delay Config.tCmdDelayMinMs]
        ++ [.setPhase .configured, .setLastCol none, .setLastRow none] from rfl, runScript_append hdelay.noFault]
    exact hdelay.afterReset
  | sleepOut => exact ⟨p, hp, keepsUp_delay Config.tCmdDelayMinMs p _ hframe⟩
  | _ => exact ⟨p, hp, hframe⟩

theorem Up.setRate {p : Phase} {s : State} (h : Up p s) {hz : Nat} (hlegal : rateLegal hz s.cfg = true) :
    Up p (runScript [.setRate hz] s) := by
  obtain ⟨hmode, hlevel, hbuffer, hcfg, -⟩ := (attachedRest_iff s).1 h.attached
  rw [runScript_single]
  exact ⟨h.noFault, (attachedRest_iff _).2 ⟨hmode, hlevel, hbuffer, hcfg, hlegal⟩, h.lock, h.pending, h.phase, h.timer⟩

/-! ### Attaching -/

/-- One line configured and driven to its idle level (R120). -/
def State.configured (s : State) (l : Line) : State := (s.configureLine l).driveLine l l.idle

theorem runScript_configureLines (ls : List Line) {s : State} (hf : s.fault = none) :
    runScript (ls.flatMap fun l => [.setMode l, .setLine l l.idle]) s = ls.foldl State.configured s := by
  induction ls generalizing s with
  | nil => rfl
  | cons l ls ih =>
    have hline : runOp (.setLine l l.idle) (s.configureLine l) = s.configured l := by
      simp [runOp, setLineOp, State.configured]
    have hstep : runScript [.setMode l, .setLine l l.idle] s = s.configured l := by
      rw [runScript_cons (show (runOp (.setMode l) s).fault = none from hf), runScript_single]
      exact hline
    rw [List.flatMap_cons, runScript_append (by rw [hstep]; exact hf), hstep, List.foldl_cons]
    exact ih hf

/-- After CONFIGURE_OUTPUTS every line is an output at its idle level, whatever it was (R120, R121). -/
theorem configured_levelsAtRest (s : State) : LevelsAtRest (Line.all.foldl State.configured s).level := by
  have hlevel (l : Line) : (Line.all.foldl State.configured s).level.get l = Level.ofBool l.idle := by cases l <;> rfl
  refine ⟨fun l => ?_, rfl, rfl, rfl, rfl⟩
  rw [hlevel]
  exact Level.ofBool_ne_undriven _

/-- ATTACH leaves the panel attached and Configured (R221). -/
theorem up_attach {s : State} (hf : s.fault = none) {cfg : Cfg} (hcfg : cfg.ok = true) :
    Up .configured (runScript ([.allocate cfg] ++ configureScript ++ [.setPhase .configured]) s) := by
  have hrun : runScript configureScript (s.allocate cfg) = Line.all.foldl State.configured (s.allocate cfg) :=
    runScript_configureLines Line.all hf
  have hrate : rateLegal cfg.refreshHzDefault cfg = true := by
    simp only [Cfg.ok, Bool.and_eq_true] at hcfg
    exact hcfg.2
  rw [List.append_assoc, List.singleton_append, runScript_assign rfl hf,
    runScript_append (by rw [show runOp (.allocate cfg) s = s.allocate cfg from rfl, hrun]; exact hf), runScript_single]
  rw [show runOp (.allocate cfg) s = s.allocate cfg from rfl, hrun]
  exact ⟨hf, (attachedRest_iff _).2 ⟨rfl, configured_levelsAtRest _, rfl, hcfg, hrate⟩, rfl, rfl, rfl, by simp⟩

/-! ### Every request ends at rest -/

/-- At rest but for the engine, and without a fault: so a script's body has to end. -/
def EndsCalm (s : State) : Prop := s.fault = none ∧ (s.setEngine .idle).atRest = true

theorem Up.endsCalm {p : Phase} {s : State} (h : Up p s) (hp : p ≠ .detached) : EndsCalm s :=
  ⟨h.noFault, (h.setEngine .idle).atRest hp rfl⟩

/-- From a state at rest, the script of each request comes to rest up to its return. -/
theorem Body.endsCalm {s : State} {i : Instr} {body : List SubOp} (h : Body s i body) (hf : s.fault = none)
    (hrest : s.atRest = true) : EndsCalm (runScript body (s.setEngine .busy)) := by
  have hself : EndsCalm (s.setEngine .busy) := by
    refine ⟨hf, ?_⟩
    rw [show (s.setEngine .busy).setEngine .idle = s by
      rw [State.setEngine, State.setEngine, ← engine_of_atRest hrest]]
    exact hrest
  have hup (hphase : s.phase ≠ .detached) : Up s.phase (s.setEngine .busy) :=
    (up_of_atRest hf hrest hphase).setEngine .busy
  cases h with
  | attachFailed | streamRejected | rateRejected => exact hself
  | attach hcfg => exact (up_attach (s := s.setEngine .busy) hf hcfg).endsCalm (by simp)
  | detach => exact ⟨by rw [runScript_single]; exact hf, by rw [runScript_single]; rfl⟩
  | hardReset hphase => exact (hup hphase).hardReset.endsCalm (by simp)
  | initPanel hphase => exact (hup hphase).initPanel.endsCalm (by simp)
  | @sendCommand cmd hphase =>
    obtain ⟨q, hq, h⟩ := (hup hphase).sendCommand hphase cmd
    exact h.endsCalm hq
  | stream hi hphase hvalid =>
    have hattached : s.phase ≠ .detached := by simp [hphase]
    exact ((hup hattached).stream hvalid _).endsCalm hattached
  | setRate hphase hlegal => exact ((hup hphase).setRate hlegal).endsCalm hphase

theorem finish_of_endsCalm {s : State} (h : EndsCalm s) (reply : Option Reply) :
    (s.finish reply).fault = none ∧ (s.finish reply).atRest = true := by
  cases reply <;> exact h

/-- So the state in which the script starts is midway to a state at rest. -/
theorem Body.midway {s : State} {i : Instr} {body : List SubOp} (h : Body s i body) (hf : s.fault = none)
    (hrest : s.atRest = true) (reply : Option Reply) : (s.started (body ++ [.ret reply])).midway = true := by
  have hcalm := h.endsCalm hf hrest
  refine (midway_setScript ..).2 ⟨endsInReturn_append_ret h.any_isReturn reply, ?_⟩
  rw [runScript_append hcalm.1, runScript_single]
  exact finish_of_endsCalm hcalm reply

end Sys2Proof.Machine
end

section
/-! PROOF. Every step keeps the invariant (spec/10_state.md R28 to R36, spec/70_reset_and_hazards.md R297): each thing that can
happen in a step does. -/

namespace Sys2Proof.Machine

open Sys2Proof

/-! ### The environment, faults and replies -/

theorem TurnTaken.fault {s u : State} (h : TurnTaken s u) : u.fault = s.fault := by rw [h.eq]

/-- What the environment does does not touch the invariant: a port may only let a request go. -/
theorem TurnTaken.inv {s u : State} (h : TurnTaken s u) (hs : s.inv = true) (hf : s.fault = none) : u.inv = true := by
  obtain ⟨hbuffer, hports, -⟩ := (inv_iff hf).1 hs
  obtain ⟨hengine, hwrites⟩ := (portsOk_iff s).1 hports
  refine inv_of_core hs hf ?_ ?_ ?_ ((portsOk_iff u).2 ⟨fun x hx => ?_, fun x hx => ?_⟩)
  · rw [h.eq]; rfl
  · rw [h.eq]
  · rw [h.eq]; exact hbuffer
  · exact hengine x (h.enginePort hx)
  · exact hwrites x (h.bufferPort hx)

theorem inv_reply {s : State} (hs : s.inv = true) (hf : s.fault = none) (r : Reply) : (s.reply r).inv = true := by
  obtain ⟨hbuffer, hports, -⟩ := (inv_iff hf).1 hs
  exact inv_of_core hs hf rfl rfl hbuffer hports

/-! ### The engine port -/

theorem isEngineRequest_of_plan {i : Instr} {s : State} {plan : Plan} (h : enginePlan i s = some plan) :
    i.isEngineRequest = true := by
  by_contra hnot
  rw [enginePlan_eq_none (Bool.eq_false_iff.2 hnot)] at h
  cases h

theorem inv_holdEngine {s : State} (hs : s.inv = true) (hf : s.fault = none) {i : Instr}
    (hi : i.isEngineRequest = true) : (s.holdEngine i).inv = true := by
  obtain ⟨hbuffer, hports, -⟩ := (inv_iff hf).1 hs
  obtain ⟨hengine, hwrites⟩ := (portsOk_iff s).1 hports
  refine inv_of_core hs hf rfl rfl hbuffer ((portsOk_iff _).2 ⟨fun x hx => ?_, hwrites⟩)
  rcases List.mem_append.1 hx with hold | hnew
  · exact hengine x hold
  · rw [List.mem_singleton.1 hnew]; exact hi

/-- A request presented to the engine keeps the invariant: held it waits, and taken in its script leads to a state at rest. -/
theorem Presented.inv {s t : State} {i : Instr} {plan : Plan} (h : Presented i plan s t)
    (hplan : enginePlan i s = some plan) (hs : s.inv = true) (hf : s.fault = none) : t.inv = true := by
  have midway {ops : List SubOp} (hidle : s.engine = .idle) (hops : plan = .script ops) :
      (s.started ops).midway = true := by
    have hplanned := planned_of_enginePlan hplan
    rw [hops] at hplanned
    cases hplanned with
    | script hbody => exact hbody.midway hf (inv_idle hs hf hidle).2 _
  cases h with
  | held => exact inv_holdEngine hs hf (isEngineRequest_of_plan hplan)
  | raised => exact inv_of_fault rfl
  | whole hidle hops => exact inv_runWhole hs hf (midway hidle hops) (inv_idle hs hf hidle).1
  | begun hidle hops => exact inv_beginScript hs hf (midway hidle hops)

/-! ### The buffer port -/

theorem inv_holdBuffer {s : State} (hs : s.inv = true) (hf : s.fault = none) {i : Instr} (hi : i.isHostWrite = true) :
    (s.holdBuffer i).inv = true := by
  obtain ⟨hbuffer, hports, -⟩ := (inv_iff hf).1 hs
  obtain ⟨hengine, hwrites⟩ := (portsOk_iff s).1 hports
  refine inv_of_core hs hf rfl rfl hbuffer ((portsOk_iff _).2 ⟨hengine, fun x hx => ?_⟩)
  rcases List.mem_append.1 hx with hold | hnew
  · exact hwrites x hold
  · rw [List.mem_singleton.1 hnew]; exact hi

theorem bufferOk_iff {s : State} {m : Memory} (h : s.buffer = some m) :
    s.bufferOk = true ↔ m.wf = true ∧ m.within s.cfg.bufSize = true := by
  simp [State.bufferOk, h]

/-- A write clamped to the space left stays in the buffer (R224, R225). -/
theorem bufferOk_write {s : State} {m : Memory} (hm : s.buffer = some m) (h : s.bufferOk = true) {off : Nat}
    (hoff : off < s.cfg.bufSize) (bytes : List Byte) :
    (s.setBuffer (m.writeBytes off (bytes.take (clampLength off bytes.length s.cfg.bufSize)))).bufferOk = true := by
  obtain ⟨hwf, hwithin⟩ := (bufferOk_iff hm).1 h
  refine (bufferOk_iff rfl).2 ⟨Memory.writeBytes_wf _ m off hwf, Memory.writeBytes_within _ m off _ hwithin ?_⟩
  simp only [List.length_take, clampLength, State.setBuffer_cfg]
  omega

/-- The buffer's contents are not in the core. -/
theorem core_setBuffer {s : State} {m : Memory} (hm : s.buffer = some m) (m' : Memory) :
    (s.setBuffer m').core = s.core := by
  simp [State.core, State.setBuffer, hm, blankBuffer]

/-- What a request at the buffer port does keeps the invariant, also in the middle of a script. -/
theorem Performed.inv {s t : State} {i : Instr} (h : Performed s i t) (hi : IsRequest i) (hs : s.inv = true)
    (hf : s.fault = none) : t.inv = true := by
  obtain ⟨hbuffer, hports, -⟩ := (inv_iff hf).1 hs
  cases h with
  | raised => exact inv_of_fault rfl
  | replied r => exact inv_reply hs hf _
  | heldAtBuffer => exact inv_holdBuffer hs hf rfl
  | @written off bytes m r hm hoff =>
    exact inv_reply (inv_of_core hs hf (core_setBuffer hm _) rfl (bufferOk_write hm hbuffer hoff bytes) hports) hf r
  | ran ops hnot => exact absurd hi hnot

/-! ### Requests -/

theorem isRequest_of_isEngineRequest {i : Instr} (h : i.isEngineRequest = true) : IsRequest i := by
  cases i with
  | refreshTick => exact .inr rfl
  | hostRead | hostWrite => exact .inl rfl
  | _ => exact .inl h

theorem isRequest_of_isHostWrite {i : Instr} (h : i.isHostWrite = true) : IsRequest i := by
  cases i with
  | hostWrite => exact .inl rfl
  | _ => cases h

/-- Only requests are issued: a host's, the timer's, and those that the ports hold. -/
theorem Issuable.isRequest {s : State} {i : Instr} (h : Issuable s i) (hports : s.portsOk = true) : IsRequest i := by
  obtain ⟨hengine, hwrites⟩ := (portsOk_iff s).1 hports
  obtain hi | ⟨held, hmem, rfl⟩ | ⟨held, hmem, rfl⟩ := h
  · exact hi
  · exact isRequest_of_isEngineRequest (hengine held hmem)
  · exact isRequest_of_isHostWrite (hwrites held hmem)

theorem inv_issue {s t : State} {view : View} {i : Instr} (hi : IsRequest i) (h : issue view i s = .next t)
    (hs : s.inv = true) (hf : s.fault = none) : t.inv = true := by
  obtain ⟨plan, hplan, hpresented⟩ | ⟨-, hperformed⟩ := presented_or_performed_of_issue h
  · exact hpresented.inv hplan hs hf
  · exact hperformed.inv hi hs hf

/-! ### Frames -/

theorem decodeCommand_isBusFrame {opcode : Byte} {ws rest : List BusWord} {i : Instr}
    (h : decodeCommand opcode ws = .ok (i, rest)) : i.isBusFrame = true := by
  unfold decodeCommand at h
  grind [Instr.isBusFrame]

/-- What is decoded is a frame of the bus (R99). -/
theorem decodeFrame_isBusFrame {words rest : List BusWord} {i : Instr} (h : decodeFrame words = .ok (i, rest)) :
    i.isBusFrame = true := by
  cases words with
  | nil => cases h
  | cons w ws =>
    simp only [decodeFrame] at h
    split at h
    · cases h; rfl
    · exact decodeCommand_isBusFrame h

/-- The script of a frame run by itself: it drives DC first, does not return, and leaves an attached panel as it was. -/
structure FrameScript (ops : List SubOp) : Prop where
  drivesFirst : ∃ v rest, ops = .setLine .dc v :: rest
  noReturn : ops.any SubOp.isReturn = false
  keepsUp : KeepsUp ops

theorem frameScript_emitFrame (cmd : Command) : FrameScript (emitFrame cmd) :=
  ⟨by cases cmd <;> exact ⟨_, _, rfl⟩, any_isReturn_of_isInner (emitFrame_isInner cmd), keepsUp_emitFrame cmd⟩

theorem frameScript_emitD (b : Byte) : FrameScript (emitD b) := ⟨⟨_, _, rfl⟩, rfl, keepsUp_emitD b⟩

theorem frameScript_payload (b : Byte) : FrameScript (emitD b ++ [.decPending]) :=
  ⟨⟨_, _, rfl⟩, rfl, (keepsUp_emitD b).append keepsUp_decPending⟩

/-- A frame by itself runs such a script. -/
theorem exec_busFrame {i : Instr} (hi : i.isBusFrame = true) {s t : State} (h : exec i s = .next t) :
    ∃ ops, FrameScript ops ∧ t = runScript ops s := by
  cases i with
  | dataWord b =>
    simp only [exec, execDataWord] at h
    split at h
    · cases h; exact ⟨_, frameScript_payload b, rfl⟩
    · cases h; exact ⟨_, frameScript_emitD b, rfl⟩
    · cases h
  | cmdReset | cmdSleepOut | cmdDisplayOn | cmdColumnAddressSet | cmdRowAddressSet | cmdMemoryWrite | cmdPixelFormat =>
    cases h
    exact ⟨_, frameScript_emitFrame _, rfl⟩
  | _ => cases hi

/-- With no panel attached a frame faults at its first line (R122). -/
theorem FrameScript.faults {ops : List SubOp} (h : FrameScript ops) {s : State} (hrest : s.atRest = true)
    (hphase : s.phase = .detached) : ∃ f, (runScript ops s).fault = some f := by
  obtain ⟨v, rest, rfl⟩ := h.drivesFirst
  have hmode : s.mode = ByLine.const .unset := by
    simp only [State.atRest, hphase, State.detachedRest, Bool.and_eq_true, beq_iff_eq] at hrest
    obtain ⟨-, ⟨⟨hmode, -⟩, -⟩, -⟩ := hrest
    exact hmode
  exact ⟨.precondition (.setLineUnset .dc), by simp [runScript, runOp, setLineOp, hmode]⟩

theorem FrameScript.inv {ops : List SubOp} (h : FrameScript ops) {s : State} (hs : s.inv = true) (hf : s.fault = none)
    (hidle : s.engine = .idle) : (runScript ops s).inv = true := by
  obtain ⟨hbuffer, hports, -⟩ := (inv_iff hf).1 hs
  obtain ⟨hscript, hrest⟩ := inv_idle hs hf hidle
  by_cases hphase : s.phase = .detached
  · obtain ⟨f, hfault⟩ := h.faults hrest hphase
    exact inv_of_fault hfault
  · have hup := h.keepsUp _ _ (up_of_atRest hf hrest hphase)
    have hidle' : (runScript ops s).engine = .idle := (runScript_engine h.noReturn s).trans hidle
    exact (inv_iff hup.noFault).2 ⟨runScript_bufferOk ops hbuffer, (runScript_portsOk ops s).trans hports,
      .inl ⟨hidle', (runScript_frame ops s).1.trans hscript, hup.atRest hphase hidle'⟩⟩

/-! ### Steps -/

/-- Settles O9: the turn taken keeps the invariant, and so does whatever happens in it. -/
theorem everyStepKeepsTheInvariant : Obligations.EveryStepKeepsTheInvariant := by
  intro s t hs hstep
  obtain ⟨hf, u, hturn, hhappens⟩ := leads_of_step hstep
  obtain ⟨-, hports, -⟩ := (inv_iff hf).1 hs
  have hu : u.inv = true := hturn.inv hs hf
  have huf : u.fault = none := hturn.fault.trans hf
  cases hhappens with
  | nothing => exact hu
  | engineMove hbusy => exact inv_engineMove hu huf hbusy
  | issued hi h => exact inv_issue (hi.isRequest hports) h hu huf
  | frame hidle hi h =>
    obtain ⟨ops, hops, rfl⟩ := exec_busFrame (decodeFrame_isBusFrame hi) h
    exact hops.inv hu huf hidle
  | raised f => exact inv_of_fault rfl
  | replied r => exact inv_reply hu huf r

end Sys2Proof.Machine
end

section
/-! PROOF. The buffer port (spec/20_memory.md R71 to R74, R82): what a HOST_WRITE comes to, when a held one is run, and that
while a transfer holds the lock nobody changes the buffer. -/

namespace Sys2Proof.Machine

open Sys2Proof

/-! ### A HOST_WRITE -/

theorem exec_hostWrite_detached (off : Nat) (bytes : List Byte) {s : State} (hphase : s.phase = .detached) :
    exec (.hostWrite off bytes) s = .next (s.raise (faultNotAttached (.hostWrite off bytes))) := by
  simp [exec, execHostWrite, hphase]

/-- The range is checked before the lock (R262). -/
theorem exec_hostWrite_outOfRange {off : Nat} (bytes : List Byte) {s : State} (hphase : s.phase ≠ .detached)
    (hoff : s.cfg.bufSize ≤ off) : exec (.hostWrite off bytes) s = .next (s.reply
      { agent := s.caller, op := .request (.hostWrite off bytes), result := .written .outOfRange 0 }) := by
  simp [exec, execHostWrite, hphase, hoff]

theorem exec_hostWrite_locked {off : Nat} (bytes : List Byte) {s : State} (hphase : s.phase ≠ .detached)
    (hoff : off < s.cfg.bufSize) (hlock : s.lock = .heldByTransfer) :
    exec (.hostWrite off bytes) s = .next (s.holdBuffer (.hostWrite off bytes)) := by
  simp [exec, execHostWrite, hphase, Nat.not_le.2 hoff, hlock]

theorem exec_hostWrite_free {off : Nat} (bytes : List Byte) {m : Memory} {s : State} (hphase : s.phase ≠ .detached)
    (hoff : off < s.cfg.bufSize) (hlock : s.lock = .free) (hbuffer : s.buffer = some m) :
    exec (.hostWrite off bytes) s = .next
      ((s.setBuffer (m.writeBytes off (bytes.take (clampLength off bytes.length s.cfg.bufSize)))).reply
        { agent := s.caller, op := .request (.hostWrite off bytes)
          result := .written (clampStatus off bytes.length s.cfg.bufSize)
            (clampLength off bytes.length s.cfg.bufSize) }) := by
  simp [exec, execHostWrite, hphase, Nat.not_le.2 hoff, hlock, hbuffer]

/-! ### Serving the buffer port -/

/-- Under the lock the buffer port serves nothing; once it is free it runs what it held. -/
theorem serveBuffer_of_held {s : State} {n : Nat} {h : Held} (hheld : s.bufferPort[n]? = some h) :
    serveBuffer n s = if s.lock = .heldByTransfer then .next s
      else exec h.request { s with bufferPort := s.bufferPort.eraseIdx n, caller := h.agent } := by
  simp only [serveBuffer, hheld]
  rfl

theorem step_of_serveBuffer_turn {s : State} {n : Nat} {rest : List Turn} {h : Held} (hf : s.fault = none)
    (hschedule : s.schedule = .serveBuffer n :: rest) (hheld : s.bufferPort[n]? = some h) :
    step s = if s.lock = .heldByTransfer then .next { s with schedule := rest }
      else exec h.request { s with schedule := rest, bufferPort := s.bufferPort.eraseIdx n, caller := h.agent } := by
  rw [step_of_turn hf hschedule]
  exact serveBuffer_of_held (s := s.setSchedule rest) hheld

theorem step_of_heldWrite_by_default {s : State} {h : Held} {held : List Held} (hready : s.ready)
    (hschedule : s.schedule = []) (hlock : s.lock = .free) (hport : s.bufferPort = h :: held) :
    step s = exec h.request { s with bufferPort := held, caller := h.agent } := by
  obtain ⟨hf, hidle⟩ := hready
  have hfirst : s.bufferPort[0]? = some h := by rw [hport]; rfl
  rw [step_of_no_turn hf hschedule]
  simp [defaultTurn, hidle, hlock, hport, serveBuffer_of_held hfirst]

/-- Settles O19. -/
theorem lockHoldsHostWrites : Obligations.LockHoldsHostWrites := by
  refine ⟨fun off bytes s => exec_hostWrite_locked bytes, ?_, fun s h held => step_of_heldWrite_by_default⟩
  intro s n rest h hf hschedule hheld
  have hstep := step_of_serveBuffer_turn hf hschedule hheld
  refine ⟨fun hlocked => ?_, fun hfree => ?_⟩
  · rw [hstep, if_pos hlocked]
  · rw [hstep, if_neg (by simp [hfree])]

/-! ### What leaves the buffer alone -/

/-- The sub-steps that do not replace the buffer: all but those of ATTACH and DETACH (R32, R222). -/
def SubOp.keepsBuffer : SubOp → Bool
  | .allocate _ | .release => false
  | _ => true

theorem SubOp.keepsBuffer_of_ne {op : SubOp} (h : op ≠ .release ∧ ∀ c, op ≠ .allocate c) : op.keepsBuffer = true := by
  obtain ⟨hrelease, hallocate⟩ := h
  cases op with
  | release => exact absurd rfl hrelease
  | allocate c => exact absurd rfl (hallocate c)
  | _ => rfl

theorem runOp_buffer {op : SubOp} (h : op.keepsBuffer = true) (s : State) : (runOp op s).buffer = s.buffer := by
  cases hop : op.isEvent with
  | true =>
    obtain ⟨-, -, hbuffer, -⟩ := runOp_event_frame hop s
    exact hbuffer
  | false =>
    cases op with
    | setMode | setLine | bus | busPixel | delay => cases hop
    | allocate | release => cases h
    | ret reply => cases reply <;> rfl
    | _ => rfl

theorem runScript_buffer {ops : List SubOp} (h : ops.all SubOp.keepsBuffer = true) (s : State) :
    (runScript ops s).buffer = s.buffer := by
  induction ops generalizing s with
  | nil => rfl
  | cons op ops ih =>
    obtain ⟨hop, hops⟩ := Bool.and_eq_true_iff.1 h
    simp only [runScript]
    split
    · exact runOp_buffer hop s
    · exact (ih hops _).trans (runOp_buffer hop s)

theorem emitFrame_keepsBuffer (cmd : Command) : (emitFrame cmd).all SubOp.keepsBuffer = true := by
  cases cmd <;> rfl

theorem setWindowScript_keepsBuffer (c : Cfg) (r : Rect) : (setWindowScript c r).all SubOp.keepsBuffer = true := by
  simp [setWindowScript, List.all_append, List.all_flatMap, emitFrame_keepsBuffer, SubOp.keepsBuffer]

/-- A move of the engine leaves the buffer if nothing in its script replaces it. -/
theorem engineMove_buffer {s : State} (h : s.script.all SubOp.keepsBuffer = true) : (engineMove s).buffer = s.buffer := by
  rw [← oneEvent_append_afterEvent s.script, List.all_append, Bool.and_eq_true] at h
  obtain ⟨hone, -⟩ := h
  exact runScript_buffer hone (s.setScript (afterEvent s.script))

/-! ### Under the lock -/

theorem State.engine_ne_idle {s : State} (h : s.engine = .busy) : s.engine ≠ .idle := by simp [h]

/-- A Busy engine takes no request in, so presenting one leaves the buffer. -/
theorem Presented.buffer_of_busy {i : Instr} {plan : Plan} {s t : State} (h : Presented i plan s t)
    (hbusy : s.engine = .busy) : t.buffer = s.buffer := by
  cases h with
  | held => rfl
  | raised => rfl
  | whole hidle => exact absurd hidle (State.engine_ne_idle hbusy)
  | begun hidle => exact absurd hidle (State.engine_ne_idle hbusy)

/-- A HOST_WRITE faults, is out of range or is held. -/
theorem buffer_of_hostWrite_locked {off : Nat} {bytes : List Byte} {s t : State} (hlock : s.lock = .heldByTransfer)
    (h : exec (.hostWrite off bytes) s = .next t) : t.buffer = s.buffer := by
  by_cases hphase : s.phase = .detached
  · rw [exec_hostWrite_detached off bytes hphase] at h; cases h; rfl
  · by_cases hoff : off < s.cfg.bufSize
    · rw [exec_hostWrite_locked bytes hphase hoff hlock] at h; cases h; rfl
    · rw [exec_hostWrite_outOfRange bytes hphase (Nat.le_of_not_lt hoff)] at h; cases h; rfl

theorem buffer_of_hostRead {off len : Nat} {s t : State} (h : exec (.hostRead off len) s = .next t) :
    t.buffer = s.buffer := by
  cases performed_of_execHostRead h with
  | raised | replied => rfl
  | ran ops hnot => exact absurd (.inl rfl) hnot

theorem buffer_of_dataWord {b : Byte} {s t : State} (h : exec (.dataWord b) s = .next t) : t.buffer = s.buffer := by
  simp only [exec, execDataWord] at h
  split at h
  · cases h; exact runScript_buffer (ops := emitD b ++ [.decPending]) rfl s
  · cases h; exact runScript_buffer (ops := emitD b) rfl s
  · cases h

theorem buffer_of_setWindow {r : Rect} {s t : State} (h : exec (.setWindow r) s = .next t) : t.buffer = s.buffer := by
  simp only [exec, execSetWindow] at h
  split at h
  · cases h; exact runScript_buffer (setWindowScript_keepsBuffer s.cfg r) s
  · cases h; rfl

/-- Under the lock nothing that bypasses the engine changes the buffer: HOST_WRITE alone could, and it is held (R71). -/
theorem buffer_of_exec_locked {i : Instr} {s t : State} (hplan : enginePlan i s = none)
    (hlock : s.lock = .heldByTransfer) (h : exec i s = .next t) : t.buffer = s.buffer := by
  cases i with
  | attach | detach | hardReset | initPanel | sendCommand | transferRegion | fillRegion | transferFullFrame
  | setRefreshRate | refreshTick => cases hplan
  | hostRead off len => exact buffer_of_hostRead h
  | hostWrite off bytes => exact buffer_of_hostWrite_locked hlock h
  | dataWord b => exact buffer_of_dataWord h
  | setWindow r => exact buffer_of_setWindow h
  | validate r => cases h; rfl
  | cmdReset | cmdSleepOut | cmdDisplayOn | cmdColumnAddressSet | cmdRowAddressSet | cmdMemoryWrite | cmdPixelFormat =>
    cases h; exact runScript_buffer (emitFrame_keepsBuffer _) s
  | setLine l v => cases h; exact runOp_buffer (op := .setLine l v) rfl s
  | writeParallelByte b => cases h; exact runOp_buffer (op := .bus b) rfl s
  | delay ms => cases h; rfl
  | configureOutputs => cases h; exact runScript_buffer (ops := configureScript) rfl s
  | writeCommand b => cases h; exact runScript_buffer (ops := emitC b) rfl s
  | writeData b => cases h; exact runScript_buffer (ops := emitD b) rfl s

/-- During a transfer whatever is issued leaves the buffer (R71, R72). -/
theorem buffer_of_issue_locked {view : View} {i : Instr} {s t : State} (hbusy : s.engine = .busy)
    (hlock : s.lock = .heldByTransfer) (h : issue view i s = .next t) : t.buffer = s.buffer := by
  cases hplan : enginePlan i s with
  | none =>
    refine buffer_of_exec_locked hplan hlock ?_
    cases view with
    | whole => exact h
    | stepped => rwa [issue_stepped_of_no_plan hplan] at h
  | some plan =>
    obtain ⟨plan', -, hpresented⟩ | ⟨hnone, -⟩ := presented_or_performed_of_issue h
    · exact hpresented.buffer_of_busy hbusy
    · simp [hplan] at hnone

/-- Settles O20: a turn taken leaves the buffer, the engine and the lock, and then none of what can happen in it changes
the buffer: the engine moves on in the transfer's script, and everyone else is held. -/
theorem bufferIsFrozenDuringATransfer : Obligations.BufferIsFrozenDuringATransfer := by
  intro s t hbusy hlock hscript hstep
  obtain ⟨-, u, hturn, hhappens⟩ := leads_of_step hstep
  have hubusy : u.engine = .busy := by rw [hturn.eq]; exact hbusy
  have hulock : u.lock = .heldByTransfer := by rw [hturn.eq]; exact hlock
  have huscript : u.script.all SubOp.keepsBuffer = true := by
    rw [hturn.eq]
    exact List.all_eq_true.2 fun op hop => SubOp.keepsBuffer_of_ne (hscript op hop)
  have hubuffer : u.buffer = s.buffer := by rw [hturn.eq]
  rw [← hubuffer]
  cases hhappens with
  | nothing => rfl
  | engineMove => exact engineMove_buffer huscript
  | issued hi h => exact buffer_of_issue_locked hubusy hulock h
  | frame hidle => exact absurd hidle (State.engine_ne_idle hubusy)
  | raised f => rfl
  | replied r => rfl

end Sys2Proof.Machine
end

section
/-! PROOF. Transfers of a rectangle (spec/43_pixel_streamer.md R190 to R193): what one comes to from either source, and that a
uniform buffer is transferred as its colour is filled. -/

namespace Sys2Proof.Machine

open Sys2Proof

/-! ### A transfer taken whole -/

/-- An Idle engine runs the script of a request whole. -/
theorem exec_of_script {i : Instr} {ops : List SubOp} {s : State} (hplan : enginePlan i s = some (.script ops))
    (hidle : s.engine = .idle) : exec i s = .next (runWhole ops s) := by
  rw [exec_of_enginePlan hplan]
  simp [presentEngine, hidle]

/-- The return at the end of a script run whole: the engine is Idle as before, and the status is answered. -/
theorem runWhole_retStatus {body : List SubOp} {s t : State} (i : Instr) (st : Status)
    (hbody : runScript body (s.setEngine .busy) = t) (hf : t.fault = none) :
    runWhole (body ++ [retStatus s i st]) s = (t.setEngine .idle).reply
      { agent := s.caller, op := .request i, result := .status st } := by
  rw [runWhole, runScript_append (by rw [hbody]; exact hf), hbody, runScript_single]
  rfl

theorem transferred_setEngine {s : State} (hidle : s.engine = .idle) (r : Rect) (payload : List BusWord) :
    ((s.setEngine .busy).transferred r payload).setEngine .idle = s.transferred r payload := by
  rw [← hidle]
  rfl

/-- A transfer of a valid rectangle once the panel is initialized, from either source: its stream, then `OK` (R190). -/
theorem exec_rectangle {i : Instr} {r : Rect} {src : PixelSource} {m : Memory} {s : State}
    (hplan : enginePlan i s = some (planRectangle i r src s)) (hready : s.ready) (hlines : s.linesUp)
    (hphase : s.phase = .initialized) (hvalid : r.validIn s.cfg = true)
    (hreadable : ∀ p ∈ r.pixels, pixelReadable s m src p) :
    exec i s = .next ((s.transferred r (r.pixels.flatMap (pixelWords s.cfg m src))).answered i .ok) := by
  obtain ⟨hf, hidle⟩ := hready
  have hscript : planRectangle i r src s = .script (streamScript s.cfg r src ++ [retStatus s i .ok]) := by
    simp [planRectangle, planTransfer, hphase, hvalid]
  have hstream : runScript (streamScript s.cfg r src) (s.setEngine .busy)
      = (s.setEngine .busy).transferred r (r.pixels.flatMap (pixelWords s.cfg m src)) :=
    runScript_stream m r src (s.setEngine .busy) hf hlines hreadable
  rw [exec_of_script (hplan.trans (congrArg some hscript)) hidle, runWhole_retStatus i .ok hstream hf,
    transferred_setEngine hidle]
  rfl

theorem exec_transferRegion {r : Rect} {m : Memory} {s : State} (hready : s.ready) (hlines : s.linesUp)
    (hphase : s.phase = .initialized) (hbuffer : s.buffer = some m) (hvalid : r.validIn s.cfg = true) :
    exec (.transferRegion r) s
      = .next ((s.transferred r (bufferPayload s.cfg m r)).answered (.transferRegion r) .ok) :=
  exec_rectangle (src := .buffer) rfl hready hlines hphase hvalid fun _ hp _ => ⟨hbuffer, pixOff_in_buffer hvalid hp⟩

theorem exec_fillRegion {r : Rect} {color : U16} {s : State} (hready : s.ready) (hlines : s.linesUp)
    (hphase : s.phase = .initialized) (hvalid : r.validIn s.cfg = true) :
    exec (.fillRegion r color) s
      = .next ((s.transferred r (fillPayload r color)).answered (.fillRegion r color) .ok) :=
  exec_rectangle (src := .color color) (m := []) rfl hready hlines hphase hvalid fun _ _ hsrc => by cases hsrc

/-! ### A uniform buffer -/

theorem lo8_join16 (hi lo : Byte) : lo8 (join16 hi lo) = lo := BitVec.extractLsb'_append_eq_right

theorem hi8_join16 (hi lo : Byte) : hi8 (join16 hi lo) = hi := BitVec.extractLsb'_append_eq_left

/-- A pixel of the buffer that reads as a colour holds its low byte at the even offset and its high byte at the odd one
(R66). -/
theorem read_of_pixelValue {s : State} {m : Memory} {px py : Nat} {color : U16} (hbuffer : s.buffer = some m)
    (hpixel : s.pixelValue px py = some color) :
    m.read (s.cfg.pixOff px py) = lo8 color ∧ m.read (s.cfg.pixOff px py + 1) = hi8 color := by
  unfold State.pixelValue at hpixel
  split at hpixel
  · next even odd heven hodd =>
    simp only [State.bufferByte, hbuffer, Option.ite_none_right_eq_some, Option.some.injEq] at heven hodd hpixel
    obtain ⟨-, rfl⟩ := heven
    obtain ⟨-, rfl⟩ := hodd
    subst hpixel
    exact ⟨(lo8_join16 ..).symm, (hi8_join16 ..).symm⟩
  · cases hpixel

theorem bufferPayload_of_uniform {r : Rect} {color : U16} {m : Memory} {s : State} (hbuffer : s.buffer = some m)
    (huniform : ∀ p ∈ r.pixels, s.pixelValue p.1 p.2 = some color) :
    bufferPayload s.cfg m r = fillPayload r color := by
  refine List.flatMap_congr fun p hp => ?_
  obtain ⟨heven, hodd⟩ := read_of_pixelValue hbuffer (huniform p hp)
  rw [heven, hodd]

/-- Settles O47: the two transfers differ in their payloads only, and those are equal. -/
theorem uniformBufferStreamsAsAFill : Obligations.UniformBufferStreamsAsAFill := by
  intro r color s hready hlines hphase hvalid huniform hsome
  obtain ⟨m, hbuffer⟩ := Option.isSome_iff_exists.1 hsome
  refine ⟨_, _, exec_transferRegion hready hlines hphase hbuffer hvalid,
    exec_fillRegion hready hlines hphase hvalid, hready.1, ?_⟩
  rw [bufferPayload_of_uniform hbuffer huniform]
  exact ⟨rfl, rfl⟩

end Sys2Proof.Machine
end

section
/-! PROOF. Blits (spec/44_host_surface.md R228): writing byte runs to the buffer and reading them back, the row writes of a blit,
and the transfer that streams them. -/

namespace Sys2Proof.Machine

open Sys2Proof

/-! ### Reading runs of bytes after writing them -/

theorem Memory.writeBytes_read_outside {bs : List Byte} {m : Memory} (hm : m.wf = true) {off a : Nat}
    (ha : a < off ∨ off + bs.length ≤ a) : (m.writeBytes off bs).read a = m.read a := by
  induction bs generalizing m off with
  | nil => rfl
  | cons b bs ih =>
    rw [List.length_cons] at ha
    rw [Memory.writeBytes, ih (Memory.write_wf m off b hm) (by omega), Memory.write_read hm, if_neg (by omega)]

/-- What is written is what is read. -/
theorem Memory.readBytes_writeBytes {bs : List Byte} {m : Memory} (hm : m.wf = true) (off : Nat) :
    (m.writeBytes off bs).readBytes off bs.length = bs := by
  induction bs generalizing m off with
  | nil => rfl
  | cons b bs ih =>
    have hwf := Memory.write_wf m off b hm
    have hfirst : ((m.write off b).writeBytes (off + 1) bs).read off = b := by
      rw [Memory.writeBytes_read_outside hwf (by omega), Memory.write_read hm, if_pos rfl]
    have hrest := ih hwf (off + 1)
    rw [Memory.readBytes] at hrest ⊢
    rw [List.length_cons, List.range'_succ, List.map_cons, Memory.writeBytes, hfirst, hrest]

/-- Byte runs written one after the other, each at its offset. -/
def Memory.writeAll (m : Memory) (runs : List (Nat × List Byte)) : Memory :=
  runs.foldl (fun m run => m.writeBytes run.1 run.2) m

theorem Memory.writeAll_cons (m : Memory) (run : Nat × List Byte) (runs : List (Nat × List Byte)) :
    m.writeAll (run :: runs) = (m.writeBytes run.1 run.2).writeAll runs := rfl

/-- Runs that all begin after a region leave it. -/
theorem Memory.readBytes_writeAll_before {runs : List (Nat × List Byte)} {m : Memory} (hm : m.wf = true) {off n : Nat}
    (hafter : ∀ run ∈ runs, off + n ≤ run.1) : (m.writeAll runs).readBytes off n = m.readBytes off n := by
  induction runs generalizing m with
  | nil => rfl
  | cons run runs ih =>
    obtain ⟨hrun, hruns⟩ := List.forall_mem_cons.1 hafter
    rw [Memory.writeAll_cons, ih (Memory.writeBytes_wf _ m _ hm) hruns]
    refine List.map_congr_left fun a ha => Memory.writeBytes_read_outside hm (.inl ?_)
    have := List.mem_range'_1.1 ha
    omega

/-- Of runs that follow one another without overlap each is read as it was written. -/
theorem Memory.readBytes_writeAll {runs : List (Nat × List Byte)} {m : Memory} (hm : m.wf = true)
    (hordered : runs.Pairwise fun run later => run.1 + run.2.length ≤ later.1) :
    ∀ run ∈ runs, (m.writeAll runs).readBytes run.1 run.2.length = run.2 := by
  induction runs generalizing m with
  | nil => simp
  | cons first runs ih =>
    obtain ⟨hfirst, hruns⟩ := List.pairwise_cons.1 hordered
    have hwf := Memory.writeBytes_wf first.2 m first.1 hm
    refine List.forall_mem_cons.2 ⟨?_, ih hwf hruns⟩
    rw [Memory.writeAll_cons, Memory.readBytes_writeAll_before hwf hfirst, Memory.readBytes_writeBytes hm]

/-! ### A payload, row by row -/

/-- The bytes of pixels side by side are bytes side by side (R62). -/
theorem flatMap_pair_range' {α : Type} (f : Nat → α) (k x n : Nat) :
    ((List.range' x n).flatMap fun px => [f (2 * (k + px)), f (2 * (k + px) + 1)])
      = (List.range' (2 * (k + x)) (2 * n)).map f := by
  induction n generalizing x with
  | zero => rfl
  | succ n ih =>
    rw [List.range'_succ, List.flatMap_cons, ih (x + 1), show 2 * (n + 1) = 2 * n + 1 + 1 by omega, List.range'_succ,
      List.range'_succ, show 2 * (k + (x + 1)) = 2 * (k + x) + 1 + 1 by omega]
    rfl

/-- The payload of a rectangle is the bytes of its rows, one row after the other (R191). -/
theorem bufferPayload_eq_rows (c : Cfg) (m : Memory) (r : Rect) : bufferPayload c m r =
    ((List.range r.height).flatMap fun j => m.readBytes (c.pixOff r.x (r.y + j)) (2 * r.width)).map dataBusWord := by
  have hrow (py : Nat) : (((List.range' r.x r.width).map fun px => (px, py)).flatMap fun p =>
      [dataBusWord (m.read (c.pixOff p.1 p.2)), dataBusWord (m.read (c.pixOff p.1 p.2 + 1))])
        = (m.readBytes (c.pixOff r.x py) (2 * r.width)).map dataBusWord := by
    rw [List.flatMap_map, Memory.readBytes, List.map_map]
    exact flatMap_pair_range' (dataBusWord ∘ m.read) (py * c.width) r.x r.width
  rw [bufferPayload, Rect.pixels, List.flatMap_assoc, List.flatMap_congr fun py _ => hrow py,
    List.range'_eq_map_range (s := r.y), List.flatMap_map, List.map_flatMap]

/-! ### The rows of a blit -/

/-- Row `j` of a blit's source (R228). -/
def blitRow (r : Rect) (src : List Byte) (j : Nat) : List Byte := (src.drop (2 * r.width * j)).take (2 * r.width)

/-- The row writes of a blit: each row and where it goes (R228). -/
def blitRuns (c : Cfg) (r : Rect) (src : List Byte) : List (Nat × List Byte) :=
  (List.range r.height).map fun j => (c.pixOff r.x (r.y + j), blitRow r src j)

theorem blitBuffer_eq_writeAll (c : Cfg) (r : Rect) (src : List Byte) (m : Memory) :
    blitBuffer c r src m = m.writeAll (blitRuns c r src) := by
  rw [Memory.writeAll, blitRuns, List.foldl_map]
  rfl

theorem requestsOf_map_request (is : List Instr) (ops : List HostOp) :
    requestsOf (is.map .request ++ ops) = is ++ requestsOf ops := by
  induction is with
  | nil => rfl
  | cons i is ih => exact congrArg (i :: ·) ih

theorem requestsOf_blitRequests (c : Cfg) (r : Rect) (src : List Byte) :
    requestsOf (blitRequests c r src)
      = (blitRuns c r src).map (fun run => Instr.hostWrite run.1 run.2) ++ [.transferRegion r] := by
  have hrows : blitRequests c r src
      = ((blitRuns c r src).map fun run => Instr.hostWrite run.1 run.2).map .request ++ [.request (.transferRegion r)] := by
    rw [blitRuns, List.map_map, List.map_map]
    rfl
  rw [hrows, requestsOf_map_request]
  rfl

theorem blitRow_length {r : Rect} {src : List Byte} (hsrc : src.length = 2 * r.width * r.height) {j : Nat}
    (hj : j < r.height) : (blitRow r src j).length = 2 * r.width := by
  have hfits : 2 * r.width * j + 2 * r.width ≤ src.length :=
    calc 2 * r.width * j + 2 * r.width = 2 * r.width * (j + 1) := by ring
      _ ≤ 2 * r.width * r.height := Nat.mul_le_mul_left _ hj
      _ = src.length := hsrc.symm
  rw [blitRow, List.length_take, List.length_drop]
  omega

/-- A row of a rectangle on the surface ends before every later line of the surface begins. -/
theorem row_end_le {c : Cfg} {r : Rect} (hx : r.x + r.width ≤ c.width) {py n : Nat} (hpy : py < n) :
    c.pixOff r.x py + 2 * r.width ≤ c.pixOff 0 n := by
  have hline : py * c.width + c.width ≤ n * c.width :=
    calc py * c.width + c.width = (py + 1) * c.width := by ring
      _ ≤ n * c.width := Nat.mul_le_mul_right _ hpy
  simp only [Cfg.pixOff]
  omega

section
variable {c : Cfg} {r : Rect} {src : List Byte} (hvalid : r.validIn c = true)
  (hsrc : src.length = 2 * r.width * r.height)
include hvalid hsrc

/-- The rows of a blit follow one another in the buffer without overlap. -/
theorem blitRuns_ordered :
    (blitRuns c r src).Pairwise fun run later => run.1 + run.2.length ≤ later.1 := by
  simp only [Rect.validIn, Bool.and_eq_true, decide_eq_true_eq] at hvalid
  obtain ⟨hx, -⟩ := hvalid
  refine List.pairwise_map.2 (List.pairwise_lt_range.imp_of_mem fun {j j'} hj _ hlt => ?_)
  have hrow := row_end_le hx (Nat.add_lt_add_left hlt r.y)
  rw [blitRow_length hsrc (List.mem_range.1 hj)]
  refine hrow.trans ?_
  simp only [Cfg.pixOff]
  omega

/-- Each row of a blit fits into the buffer. -/
theorem blitRuns_fit : ∀ run ∈ blitRuns c r src, run.1 + run.2.length ≤ c.bufSize := by
  simp only [Rect.validIn, Bool.and_eq_true, decide_eq_true_eq] at hvalid
  obtain ⟨hx, hy⟩ := hvalid
  refine List.forall_mem_map.2 fun j hj => ?_
  have hj' := List.mem_range.1 hj
  have hsize : c.pixOff 0 c.height = c.bufSize := by
    simp only [Cfg.pixOff, Cfg.bufSize, Config.bppBytes]
    ring
  rw [blitRow_length hsrc hj', ← hsize]
  exact row_end_le hx (by omega)

end

/-- A list is its pieces of one length, one after the other. -/
theorem flatMap_pieces {α : Type} (xs : List α) (k n : Nat) :
    ((List.range n).flatMap fun j => (xs.drop (k * j)).take k) = xs.take (k * n) := by
  induction n with
  | zero => rfl
  | succ n ih =>
    rw [List.range_succ, List.flatMap_append, ih, List.flatMap_singleton, Nat.mul_succ, List.take_add]

/-- After its row writes a blit's rectangle streams its source, whatever the buffer held (R191, R228). -/
theorem bufferPayload_blitBuffer {c : Cfg} {r : Rect} {src : List Byte} {m : Memory} (hm : m.wf = true)
    (hvalid : r.validIn c = true) (hsrc : src.length = 2 * r.width * r.height) :
    bufferPayload c (blitBuffer c r src m) r = src.map dataBusWord := by
  have hread := Memory.readBytes_writeAll hm (blitRuns_ordered hvalid hsrc)
  have hrow (j : Nat) (hj : j ∈ List.range r.height) :
      (blitBuffer c r src m).readBytes (c.pixOff r.x (r.y + j)) (2 * r.width) = blitRow r src j := by
    have hrun := hread _ (List.mem_map_of_mem hj)
    rwa [blitRow_length hsrc (List.mem_range.1 hj), ← blitBuffer_eq_writeAll] at hrun
  have hrows : (List.range r.height).flatMap (blitRow r src) = src :=
    (flatMap_pieces src (2 * r.width) r.height).trans (by rw [← hsrc, List.take_length])
  rw [bufferPayload_eq_rows, List.flatMap_congr hrow, hrows]

/-! ### The requests of a blit, one after the other -/

theorem execInOrder_append {is js : List Instr} {s t : State} (h : execInOrder is s = .next t) :
    execInOrder (is ++ js) s = execInOrder js t := by
  induction is generalizing s with
  | nil => cases h; rfl
  | cons i is ih =>
    simp only [List.cons_append, execInOrder] at h ⊢
    split at h
    · exact ih h
    · cases h
    · cases h

/-- A HOST_WRITE that fits stores all its bytes (R224); an empty one at the very end stores none, out of range as it is. -/
theorem exec_hostWrite_fits {off : Nat} {bytes : List Byte} {m : Memory} {s : State} (hphase : s.phase ≠ .detached)
    (hlock : s.lock = .free) (hbuffer : s.buffer = some m) (hfits : off + bytes.length ≤ s.cfg.bufSize) :
    ∃ reply, exec (.hostWrite off bytes) s = .next ((s.setBuffer (m.writeBytes off bytes)).reply reply) := by
  by_cases hoff : off < s.cfg.bufSize
  · have hall : bytes.take (clampLength off bytes.length s.cfg.bufSize) = bytes :=
      List.take_of_length_le (by unfold clampLength; omega)
    rw [exec_hostWrite_free bytes hphase hoff hlock hbuffer, hall]
    exact ⟨_, rfl⟩
  · obtain rfl : bytes = [] := List.length_eq_zero_iff.1 (by omega)
    have hsame : s.setBuffer m = s := by rw [State.setBuffer, ← hbuffer]
    rw [exec_hostWrite_outOfRange [] hphase (Nat.le_of_not_lt hoff), Memory.writeBytes, hsame]
    exact ⟨_, rfl⟩

/-- HOST_WRITEs that fit, one after the other: all their bytes stored, and nothing else but what they return. -/
theorem execInOrder_hostWrites {runs : List (Nat × List Byte)} {m : Memory} {s : State} (hphase : s.phase ≠ .detached)
    (hlock : s.lock = .free) (hbuffer : s.buffer = some m) (hfit : ∀ run ∈ runs, run.1 + run.2.length ≤ s.cfg.bufSize) :
    ∃ replies, execInOrder (runs.map fun run => .hostWrite run.1 run.2) s
      = .next { s with buffer := some (m.writeAll runs), returned := replies } := by
  induction runs generalizing m s with
  | nil => exact ⟨s.returned, by rw [Memory.writeAll, List.foldl_nil, ← hbuffer]; rfl⟩
  | cons run runs ih =>
    obtain ⟨hrun, hruns⟩ := List.forall_mem_cons.1 hfit
    obtain ⟨reply, hexec⟩ := exec_hostWrite_fits hphase hlock hbuffer hrun
    obtain ⟨replies, hrest⟩ :=
      ih (s := (s.setBuffer (m.writeBytes run.1 run.2)).reply reply) hphase hlock rfl hruns
    refine ⟨replies, ?_⟩
    rw [List.map_cons, execInOrder, hexec]
    exact hrest

/-- Settles O60: the row writes put the source's rows into the buffer without overlap, and the transfer reads them back. -/
theorem blitStreamsItsSource : Obligations.BlitStreamsItsSource := by
  intro r src m s hm hvalid hsrc
  have hpayload := bufferPayload_blitBuffer hm hvalid hsrc
  refine ⟨hpayload, fun hready hlines hphase hlock hbuffer => ?_⟩
  obtain ⟨replies, hwrites⟩ :=
    execInOrder_hostWrites (by simp [hphase]) hlock hbuffer (blitRuns_fit hvalid hsrc)
  rw [← blitBuffer_eq_writeAll] at hwrites
  have htransfer := exec_transferRegion (s := { s with buffer := some (blitBuffer s.cfg r src m), returned := replies })
    hready hlines hphase rfl hvalid
  rw [hpayload] at htransfer
  rw [requestsOf_blitRequests, execInOrder_append hwrites, execInOrder, htransfer]
  exact ⟨_, rfl, hready.1, rfl, rfl⟩

end Sys2Proof.Machine
end

section
/-! PROOF. Decoder and encoder (spec/30_encoding.md R92, R96, R99, R102): each part of the decoder takes exactly what the
encoder's part gives, so a frame decodes exactly if it is an encoding, and so does a stream of frames. -/

namespace Sys2Proof.Machine

open Sys2Proof

/-! ### Words -/

/-- DC and the byte are all of a bus word (R90). -/
theorem busWord_eq_append (w : BusWord) : w = BitVec.ofBool (BusWord.isData w) ++ BusWord.byte w := by
  refine BitVec.eq_of_getLsbD_eq fun i hi => ?_
  have hbit := BitVec.getLsbD_append (x := BitVec.ofBool (BusWord.isData w)) (y := BusWord.byte w) (i := i)
  obtain hlow | rfl : i < 8 ∨ i = 8 := by omega
  · simpa [hlow, BusWord.byte] using hbit.symm
  · simpa [BusWord.isData] using hbit.symm

/-- A word with DC = 1 is the data word of its byte (R90). -/
theorem isData_iff (w : BusWord) : BusWord.isData w = true ↔ w = dataBusWord (BusWord.byte w) := by
  refine ⟨fun h => ?_, fun h => h ▸ isData_dataBusWord _⟩
  have hw := busWord_eq_append w
  rwa [h] at hw

/-- A word with DC = 0 is the command word of its byte (R90). -/
theorem not_isData_iff (w : BusWord) : BusWord.isData w = false ↔ w = commandWord (BusWord.byte w) := by
  refine ⟨fun h => ?_, fun h => h ▸ isData_commandWord _⟩
  have hw := busWord_eq_append w
  rwa [h] at hw

theorem join16_hi8_lo8 (v : U16) : join16 (hi8 v) (lo8 v) = v := by
  refine BitVec.eq_of_getLsbD_eq fun i hi => ?_
  simp only [join16, hi8, lo8, BitVec.getLsbD_append, BitVec.getLsbD_extractLsb']
  grind

theorem dataBusWord_eq_dataWordOf (b : Byte) : dataBusWord b = dataWordOf b.toNat := by
  have hsum : (dataBusWord b).toNat = 256 + b.toNat := by
    rw [dataBusWord, BitVec.toNat_append, ← Nat.shiftLeft_add_eq_or_of_lt b.isLt]
    rfl
  rw [dataWordOf, ← hsum, BitVec.ofNat_toNat, BitVec.setWidth_eq]

theorem hi8_toNat (v : U16) : (hi8 v).toNat = v.toNat / 256 := by
  simp [hi8]; omega

theorem lo8_toNat (v : U16) : (lo8 v).toNat = v.toNat % 256 := by
  simp [lo8]

/-- The two argument words of a value, high byte first (R63, R93). -/
theorem encodeU16_eq_boundWords (v : U16) : encodeU16 v = boundWords v.toNat := by
  simp only [encodeU16, boundWords, dataBusWord_eq_dataWordOf, hi8_toNat, lo8_toNat]

/-- Settles O6: the words are written with the byte of a 16-bit value as a number. -/
theorem encoderGivesTheWireWords : Obligations.EncoderGivesTheWireWords := by
  intro v s e
  simp only [encodeCommand, encodeU16_eq_boundWords, dataBusWord_eq_dataWordOf]
  exact ⟨rfl, rfl, rfl, rfl, rfl, rfl, rfl⟩

/-! ### Arguments -/

/-- One argument byte is taken exactly from its data word. -/
theorem takeData_eq_some_iff {ws rest : List BusWord} {b : Byte} :
    takeData ws = some (b, rest) ↔ ws = dataBusWord b :: rest := by
  cases ws with
  | nil => simp [takeData]
  | cons w ws =>
    constructor
    · intro h
      simp only [takeData, Option.ite_none_right_eq_some, Option.some.injEq, Prod.mk.injEq] at h
      obtain ⟨hdata, rfl, rfl⟩ := h
      rw [← (isData_iff w).1 hdata]
    · rintro ⟨⟩
      simp [takeData, isData_dataBusWord, byte_dataBusWord]

/-- A 16-bit argument is taken exactly from its two words (R93). -/
theorem takeU16_eq_some_iff {ws rest : List BusWord} {v : U16} :
    takeU16 ws = some (v, rest) ↔ ws = encodeU16 v ++ rest := by
  constructor
  · intro h
    unfold takeU16 at h
    split at h
    · cases h
    · next hi ws1 hhi =>
      split at h
      · cases h
      · next lo ws2 hlo =>
        cases h
        rw [takeData_eq_some_iff.1 hhi, takeData_eq_some_iff.1 hlo, encodeU16, hi8_join16, lo8_join16]
        rfl
  · rintro rfl
    rw [encodeU16, List.cons_append, List.cons_append, List.nil_append]
    simp only [takeU16, takeData_eq_some_iff.2 rfl, join16_hi8_lo8]

/-- The bounds of a window are taken exactly from their four words (R92). -/
theorem takeBounds_eq_some_iff {ws rest : List BusWord} {s e : U16} :
    takeBounds ws = some ((s, e), rest) ↔ ws = encodeU16 s ++ encodeU16 e ++ rest := by
  rw [List.append_assoc]
  constructor
  · intro h
    unfold takeBounds at h
    split at h
    · cases h
    · next hs =>
      split at h
      · cases h
      · next he =>
        cases h
        rw [takeU16_eq_some_iff.1 hs, takeU16_eq_some_iff.1 he]
  · rintro rfl
    simp only [takeBounds, takeU16_eq_some_iff.2 rfl]

/-! ### Frames -/

theorem decodeFrame_dataBusWord (b : Byte) (ws : List BusWord) :
    decodeFrame (dataBusWord b :: ws) = .ok (.dataWord b, ws) := by
  simp [decodeFrame, isData_dataBusWord, byte_dataBusWord]

theorem decodeFrame_commandWord (opcode : Byte) (ws : List BusWord) :
    decodeFrame (commandWord opcode :: ws) = decodeCommand opcode ws := by
  simp [decodeFrame, isData_commandWord, byte_commandWord]

/-- What a command word and the words after it decode to is encoded by that command word and the arguments taken (R92). -/
theorem encode_of_decodeCommand {opcode : Byte} {i : Instr} {ws rest : List BusWord}
    (h : decodeCommand opcode ws = .ok (i, rest)) :
    ∃ args, encode i = some (commandWord opcode :: args) ∧ ws = args ++ rest := by
  unfold decodeCommand at h
  split_ifs at h with hreset hsleepOut hdisplayOn hcolumn hrow hmemoryWrite hpixelFormat
  · cases h; exact ⟨[], by rw [hreset]; rfl, rfl⟩
  · cases h; exact ⟨[], by rw [hsleepOut]; rfl, rfl⟩
  · cases h; exact ⟨[], by rw [hdisplayOn]; rfl, rfl⟩
  · split at h
    · next hbounds => cases h; exact ⟨_, by rw [hcolumn]; rfl, takeBounds_eq_some_iff.1 hbounds⟩
    · cases h
  · split at h
    · next hbounds => cases h; exact ⟨_, by rw [hrow]; rfl, takeBounds_eq_some_iff.1 hbounds⟩
    · cases h
  · cases h; exact ⟨[], by rw [hmemoryWrite]; rfl, rfl⟩
  · split at h
    · next hbyte => cases h; exact ⟨[_], by rw [hpixelFormat]; rfl, takeData_eq_some_iff.1 hbyte⟩
    · cases h

/-- A frame decodes exactly if it is the encoding of an instruction, which it then decodes to, with the words after it
left (R92, R99, R102). -/
theorem decodeFrame_eq_ok_iff {i : Instr} {ws rest : List BusWord} :
    decodeFrame ws = .ok (i, rest) ↔ ∃ fw, encode i = some fw ∧ ws = fw ++ rest := by
  constructor
  · intro h
    cases ws with
    | nil => cases h
    | cons w ws =>
      cases hw : BusWord.isData w with
      | true =>
        rw [(isData_iff w).1 hw, decodeFrame_dataBusWord] at h
        cases h
        exact ⟨_, rfl, by rw [← (isData_iff w).1 hw]; rfl⟩
      | false =>
        rw [(not_isData_iff w).1 hw, decodeFrame_commandWord] at h
        obtain ⟨args, hencode, rfl⟩ := encode_of_decodeCommand h
        exact ⟨_, hencode, by rw [← (not_isData_iff w).1 hw]; rfl⟩
  · rintro ⟨fw, hencode, rfl⟩
    cases i with
    | dataWord b => cases hencode; exact decodeFrame_dataBusWord b rest
    | cmdReset | cmdSleepOut | cmdDisplayOn | cmdMemoryWrite => cases hencode; exact decodeFrame_commandWord _ rest
    | cmdColumnAddressSet s e | cmdRowAddressSet s e =>
      cases hencode
      simp [encodeCommand, decodeFrame_commandWord, decodeCommand,
        takeBounds_eq_some_iff.2 (List.append_assoc (encodeU16 s) (encodeU16 e) rest).symm]
    | cmdPixelFormat v =>
      cases hencode
      simp [encodeCommand, decodeFrame_commandWord, decodeCommand, takeData_eq_some_iff.2 rfl]
    | _ => cases hencode

/-- Settles O2: what is an encoding decodes. -/
theorem decodeOfEncodeIsTheInstruction : Obligations.DecodeOfEncodeIsTheInstruction :=
  fun _ ws _ hencode => decodeFrame_eq_ok_iff.2 ⟨ws, hencode, rfl⟩

/-- Settles O3: what decodes is an encoding. -/
theorem decodedWordsAreTheEncoding : Obligations.DecodedWordsAreTheEncoding :=
  fun _ _ _ => decodeFrame_eq_ok_iff.1

/-- Settles O1: each word list of the table is the encoding of its instruction, followed by what is left. -/
theorem wordsFromTheTableDecode : Obligations.WordsFromTheTableDecode := by
  simp only [Obligations.WordsFromTheTableDecode, decodeFrame_eq_ok_iff]
  exact ⟨⟨_, rfl, rfl⟩, ⟨_, rfl, rfl⟩, ⟨_, rfl, rfl⟩, ⟨_, rfl, rfl⟩, ⟨_, rfl, rfl⟩, ⟨_, rfl, rfl⟩, ⟨_, rfl, rfl⟩,
    ⟨_, rfl, rfl⟩⟩

/-- Settles O5: each of the seven comparisons with an opcode fails. -/
theorem reservedOpcodesAreRefused : Obligations.ReservedOpcodesAreRefused := by
  intro b ws hb
  simp only [List.mem_cons, List.not_mem_nil, or_false, not_or] at hb
  rw [decodeFrame_commandWord]
  simp only [decodeCommand, hb, if_false]

/-- Settles O11: the turn is the frame's, which an Idle engine decodes and runs. -/
theorem stepRunsTheDecodedFrame : Obligations.StepRunsTheDecodedFrame := by
  rintro s words ws rest i ⟨hf, hidle⟩ hschedule hdecode
  rw [step_of_turn hf hschedule, takeTurn, if_neg (by simp [hidle]), runFrame, hdecode]
  rfl

/-! ### Streams -/

/-- An encoding has a first word, since no words decode to nothing. -/
theorem exists_cons_of_encode {i : Instr} {fw : List BusWord} (h : encode i = some fw) : ∃ w args, fw = w :: args := by
  refine List.exists_cons_of_ne_nil ?_
  rintro rfl
  have hdecode : decodeFrame [] = .ok (i, []) := decodeFrame_eq_ok_iff.2 ⟨_, h, rfl⟩
  cases hdecode

/-- A list is framed if its first instruction has a place, given by its first word, and the rest is framed in what that
word opens (R99, R102). -/
theorem framed_cons {i : Instr} {w : BusWord} {args : List BusWord} (h : encode i = some (w :: args)) (inPayload : Bool)
    (is : List Instr) :
    framed inPayload (i :: is) = (!(BusWord.isData w && !inPayload) && framed (staysInPayload w) is) := by
  cases i with
  | dataWord b =>
    cases h
    cases inPayload <;> simp [framed, staysInPayload, isData_dataBusWord]
  | cmdReset | cmdSleepOut | cmdDisplayOn | cmdColumnAddressSet | cmdRowAddressSet | cmdMemoryWrite | cmdPixelFormat =>
    cases h
    simp [framed, staysInPayload, isData_commandWord, byte_commandWord]
  | _ => cases h

/-- A data word outside a memory-write frame ends the decoding (R99). -/
theorem decodeStream_outside (n : Nat) {inPayload : Bool} {w : BusWord}
    (houtside : (BusWord.isData w && !inPayload) = true) (ws : List BusWord) :
    decodeStream (n + 1) inPayload (w :: ws) = .error (.dataOutsideFrame (BusWord.byte w)) := by
  rw [decodeStream, if_pos houtside]

/-- A stream that begins with an encoding that has a place decodes to its instruction and what the rest decodes to. -/
theorem decodeStream_inside {i : Instr} {w : BusWord} {args : List BusWord} (h : encode i = some (w :: args)) (n : Nat)
    {inPayload : Bool} (hinside : (BusWord.isData w && !inPayload) = false) (rest : List BusWord) :
    decodeStream (n + 1) inPayload (w :: args ++ rest) = (decodeStream n (staysInPayload w) rest).map (i :: ·) := by
  have hdecode : decodeFrame (w :: (args ++ rest)) = .ok (i, rest) := decodeFrame_eq_ok_iff.2 ⟨_, h, rfl⟩
  rw [List.cons_append, decodeStream, if_neg (Bool.eq_false_iff.1 hinside)]
  simp only [hdecode]
  cases decodeStream n (staysInPayload w) rest <;> rfl

/-- The encodings of a list decode to it if it is framed, and stop at a data word if not. Each frame takes at least one
word, so fuel for every word is enough. -/
theorem decodeStream_encodings {is : List Instr} {wss : List (List BusWord)} (h : is.map encode = wss.map some)
    {n : Nat} (hfuel : wss.flatten.length ≤ n) (inPayload : Bool) :
    (framed inPayload is = true ∧ decodeStream n inPayload wss.flatten = .ok is)
      ∨ (framed inPayload is = false ∧ ∃ b, decodeStream n inPayload wss.flatten = .error (.dataOutsideFrame b)) := by
  induction is generalizing wss n inPayload with
  | nil =>
    obtain rfl : wss = [] := List.map_eq_nil_iff.1 h.symm
    exact .inl ⟨by simp [framed], by simp [decodeStream]⟩
  | cons i is ih =>
    obtain _ | ⟨fw, wss⟩ := wss
    · cases h
    obtain ⟨hi, his⟩ := List.cons_eq_cons.1 h
    obtain ⟨w, args, rfl⟩ := exists_cons_of_encode hi
    obtain _ | n := n
    · simp at hfuel
    have hrest : wss.flatten.length ≤ n := by
      simp only [List.flatten_cons, List.length_append, List.length_cons] at hfuel
      omega
    rw [framed_cons hi, List.flatten_cons]
    cases houtside : BusWord.isData w && !inPayload with
    | true => exact .inr ⟨rfl, _, decodeStream_outside n houtside _⟩
    | false =>
      rw [decodeStream_inside hi n houtside, Bool.not_false, Bool.true_and]
      obtain ⟨hframed, hdecode⟩ | ⟨hframed, b, hdecode⟩ := ih his hrest (staysInPayload w)
      · exact .inl ⟨hframed, by rw [hdecode]; rfl⟩
      · exact .inr ⟨hframed, b, by rw [hdecode]; rfl⟩

/-- Settles O4, by induction over the frames. -/
theorem frameStreamDecodesBack : Obligations.FrameStreamDecodesBack := by
  intro inPayload is wss h
  obtain ⟨hframed, hdecode⟩ | ⟨hframed, hdecode⟩ := decodeStream_encodings h le_rfl inPayload
  · exact ⟨fun _ => hdecode, fun hnot => absurd (hnot.symm.trans hframed) Bool.false_ne_true⟩
  · exact ⟨fun hyes => absurd (hframed.symm.trans hyes) Bool.false_ne_true, fun _ => hdecode⟩

end Sys2Proof.Machine
end

section
/-! PROOF. Driving the lines (spec/40_bus_lines.md R120 to R124): what is on the lines after one of them, or the data bus, is
driven, and what the three operations of the Bus Line Controller come to. -/

namespace Sys2Proof.Machine

open Sys2Proof

/-! ### The lines -/

theorem get_set_eq_ite {α : Type} (f : ByLine α) (l l' : Line) (a : α) :
    (f.set l a).get l' = if l' = l then a else f.get l' := by
  split
  · next hl => rw [hl, ByLine.get_set_same]
  · next hl => exact ByLine.get_set_other f l l' a hl

@[simp] theorem Level.toBool?_ofBool (v : Bool) : (Level.ofBool v).toBool? = some v := by cases v <;> rfl

/-- A byte is its eight bits, the highest first. -/
theorem ofBoolListBE_bits (b : Byte) :
    BitVec.ofBoolListBE [b.getLsbD 7, b.getLsbD 6, b.getLsbD 5, b.getLsbD 4, b.getLsbD 3, b.getLsbD 2, b.getLsbD 1,
      b.getLsbD 0] = b := by
  refine BitVec.eq_of_getLsbD_eq fun i hi => ?_
  rw [BitVec.getLsbD_ofBoolListBE]
  replace hi : i < 8 := hi
  interval_cases i <;> rfl

/-- The byte driven is the byte on the data lines (R27, R124). -/
theorem databus_driveByte (f : ByLine Level) (b : Byte) : (f.driveByte b).databus = some b := by
  simp only [ByLine.databus, ByLine.driveByte, Level.toBool?_ofBool, ofBoolListBE_bits]

/-- The bus takes a byte only if none of the data lines is unset (R123). -/
theorem dataOutputs_eq_false {f : ByLine LineMode} {l : Line}
    (hl : l ∈ [Line.d0, .d1, .d2, .d3, .d4, .d5, .d6, .d7]) (hunset : f.get l = .unset) : f.dataOutputs = false := by
  have hmem : f.get l ∈ [f.d0, f.d1, f.d2, f.d3, f.d4, f.d5, f.d6, f.d7] :=
    List.mem_map_of_mem (f := f.get) hl
  exact List.all_eq_false.2 ⟨f.get l, hmem, by simp [hunset]⟩

/-! ### The operations -/

theorem setLineOp_of_output {l : Line} {s : State} (h : s.mode.get l = .output) (v : Bool) :
    setLineOp l v s = s.driveLine l v := if_pos h

theorem setLineOp_of_unset {l : Line} {s : State} (h : s.mode.get l = .unset) (v : Bool) :
    setLineOp l v s = s.raise (.precondition (.setLineUnset l)) := if_neg (by simp [h])

theorem busOp_of_linesUp {s : State} (h : s.linesUp) (b : Byte) : busOp b s = s.driveBus b :=
  if_pos (by rw [h]; rfl)

theorem busOp_of_unset {s : State} (h : s.mode.dataOutputs = false) (b : Byte) :
    busOp b s = s.raise (.precondition .busUnset) := if_neg (by simp [h])

/-- Lines configured one after the other: each an output at its idle level, in two events (R120). -/
theorem foldl_configured (ls : List Line) (s : State) :
    ls.foldl State.configured s = { s with
      mode := ls.foldl (fun f l => f.set l .output) s.mode
      level := ls.foldl (fun f l => f.set l (Level.ofBool l.idle)) s.level
      trace := s.trace ++ ls.flatMap fun l => [.mode l, .level l l.idle] } := by
  induction ls generalizing s with
  | nil => simp
  | cons l ls ih =>
    rw [List.foldl_cons, ih (s.configured l)]
    simp [State.configured, State.configureLine, State.driveLine]

/-- Settles O21: all 13 lines are configured, so what they were before does not show. -/
theorem configureOutputsDrivesTheIdleLevels : Obligations.ConfigureOutputsDrivesTheIdleLevels := by
  intro s hf
  have hrun : runScript configureScript s = Line.all.foldl State.configured s := runScript_configureLines Line.all hf
  rw [show exec .configureOutputs s = .next (runScript configureScript s) from rfl, hrun, foldl_configured]
  rfl

/-- Settles O22: the mode of the line decides which of the two SET_LINE does. -/
theorem setLineDrivesOneLine : Obligations.SetLineDrivesOneLine := by
  intro l v s
  have hexec : exec (.setLine l v) s = .next (setLineOp l v s) := rfl
  refine ⟨fun houtput => ⟨?_, fun l' => get_set_eq_ite s.level l l' _⟩, fun hunset => ?_⟩
  · rw [hexec, setLineOp_of_output houtput]
    rfl
  · rw [hexec, setLineOp_of_unset hunset]
    rfl

/-- Settles O23: each data line has its own bit, and `databus` puts the bits together again. -/
theorem parallelByteDrivesTheDataLines : Obligations.ParallelByteDrivesTheDataLines := by
  intro b s hlines
  refine ⟨?_, databus_driveByte s.level b, ?_, ?_⟩
  · rw [show exec (.writeParallelByte b) s = .next (busOp b s) from rfl, busOp_of_linesUp hlines]
    rfl
  · simp only [List.forall_mem_cons]
    exact ⟨rfl, rfl, rfl, rfl, rfl, rfl, rfl, rfl, List.forall_mem_nil _⟩
  · simp only [List.forall_mem_cons]
    exact ⟨rfl, rfl, rfl, rfl, rfl, List.forall_mem_nil _⟩

/-- Settles O24: one unset line is enough that not all data lines are outputs. -/
theorem parallelByteNeedsOutputs : Obligations.ParallelByteNeedsOutputs := by
  intro b s l hl hunset
  rw [show exec (.writeParallelByte b) s = .next (busOp b s) from rfl, busOp_of_unset (dataOutputs_eq_false hl hunset)]
  rfl

end Sys2Proof.Machine
end

section
/-! PROOF. The projection of a trace (spec/40_bus_lines.md R127): what one event adds to it, and what a bus write cycle adds,
whatever the reader has seen before. -/

namespace Sys2Proof.Machine

open Sys2Proof

/-- What the reader has seen of a trace. -/
def readerAfter (tr : List Event) : Reader := tr.foldl Reader.next Reader.start

theorem obs_append (tr es : List Event) : obs (tr ++ es) = obs tr ++ obsFrom (readerAfter tr) es :=
  obsFrom_append Reader.start tr es

/-- One more event adds its item. -/
theorem obs_append_single (tr : List Event) (e : Event) : obs (tr ++ [e]) = obs tr ++ (readerAfter tr).item e := by
  rw [obs_append, obsFrom, obsFrom, List.append_nil]

/-- A level of a line that is neither RST nor WR is no item (R127). -/
theorem item_level_other {l : Line} (hrst : l ≠ .rst) (hwr : l ≠ .wr) (r : Reader) (v : Bool) :
    r.item (.level l v) = [] := by
  cases l with
  | rst => exact absurd rfl hrst
  | wr => exact absurd rfl hwr
  | _ => rfl

/-- With DC and the data lines driven as a word asks, the word stands on the lines (R90, R127). -/
theorem busWord_of_driven (f : ByLine Level) (w : BusWord) :
    ByLineLevel.busWord ((f.set .dc (Level.ofBool (BusWord.isData w))).driveByte (BusWord.byte w)) = some w := by
  have hdc : ((f.set .dc (Level.ofBool (BusWord.isData w))).driveByte (BusWord.byte w)).dc
      = Level.ofBool (BusWord.isData w) := rfl
  simp only [ByLineLevel.busWord, hdc, Level.toBool?_ofBool, databus_driveByte]
  cases hdata : BusWord.isData w with
  | true => exact congrArg some ((isData_iff w).1 hdata).symm
  | false => exact congrArg some ((not_isData_iff w).1 hdata).symm

/-- One bus write cycle is one word, whatever is read before it: WR falls with the word on the lines and rises again. -/
theorem obsFrom_wordEvents (r : Reader) (w : BusWord) : obsFrom r (wordEvents w) = [.word w] := by
  simp [wordEvents, obsFrom, Reader.item, Reader.next, busWord_of_driven]

/-- The cycles of a word list are its words, in order. -/
theorem obsFrom_wordsEvents (ws : List BusWord) (r : Reader) : obsFrom r (wordsEvents ws) = ws.map .word := by
  induction ws generalizing r with
  | nil => rfl
  | cons w ws ih =>
    rw [show wordsEvents (w :: ws) = wordEvents w ++ wordsEvents ws from rfl, obsFrom_append, obsFrom_wordEvents, ih]
    rfl

/-- Settles O25: every part is what the reader makes of the events after `tr`, whatever it has seen of `tr`. -/
theorem projectionReadsTheWordsBack : Obligations.ProjectionReadsTheWordsBack := by
  intro tr ws v ms l b
  have adds_nothing {e : Event} (he : (readerAfter tr).item e = []) : obs (tr ++ [e]) = obs tr := by
    rw [obs_append_single, he, List.append_nil]
  refine ⟨?_, obs_append_single .., obs_append_single .., adds_nothing rfl, adds_nothing rfl, adds_nothing rfl,
    fun hrst hwr => adds_nothing (item_level_other hrst hwr _ v)⟩
  rw [obs_append, obsFrom_wordsEvents]

end Sys2Proof.Machine
end

section
/-! PROOF. No request runs into a precondition (spec/60_exceptions.md R258, spec/70_reset_and_hazards.md R285): what a request
faults with is a check of the phase, and a script that starts at rest runs to its end without a fault. -/

namespace Sys2Proof.Machine

open Sys2Proof

/-! ### The faults of a request -/

/-- The faults in which a request fails a check of the phase (R258). -/
inductive PhaseFault (i : Instr) : Fault → Prop where
  | notAttached (check : FailedCheck) : PhaseFault i (.notAttached i check)
  | alreadyAttached (check : FailedCheck) : PhaseFault i (.alreadyAttached i check)
  | notInitialized (check : FailedCheck) : PhaseFault i (.notInitialized i check)

theorem PhaseFault.ne_precondition {i : Instr} {f : Fault} (h : PhaseFault i f) (site : Site) :
    f ≠ .precondition site := by
  cases h <;> simp

theorem phaseFault_of_planAttach {cfg : Cfg} {s : State} {f : Fault} (h : planAttach cfg s = .fault f) :
    PhaseFault (.attach cfg) f := by
  unfold planAttach at h
  split at h
  · cases h
  · split at h
    · cases h; exact .alreadyAttached _
    · split at h
      · cases h
      · split at h <;> cases h

/-- A plan that is a fault in phase Detached and none elsewhere. -/
theorem phaseFault_of_detached {i : Instr} {s : State} {plan : Plan} {f : Fault} (hplan : ∀ f, plan ≠ .fault f)
    (h : (if s.phase = .detached then .fault (faultNotAttached i) else plan) = Plan.fault f) : PhaseFault i f := by
  split at h
  · cases h; exact .notAttached _
  · exact absurd h (hplan f)

theorem phaseFault_of_planSendCommand {cmd : Command} {s : State} {f : Fault}
    (h : planSendCommand cmd s = .fault f) : PhaseFault (.sendCommand cmd) f := by
  unfold planSendCommand at h
  split at h
  · cases h
  · exact phaseFault_of_detached (by simp) h

theorem phaseFault_of_planSetRefreshRate {hz : Nat} {s : State} {f : Fault}
    (h : planSetRefreshRate hz s = .fault f) : PhaseFault (.setRefreshRate hz) f :=
  phaseFault_of_detached (by intro f; split <;> simp) h

theorem phaseFault_of_planTransfer {i : Instr} {s : State} {inside : Plan} {f : Fault}
    (hinside : ∀ f, inside ≠ .fault f) (h : planTransfer i s inside = .fault f) : PhaseFault i f := by
  unfold planTransfer at h
  split at h
  · cases h; exact .notAttached _
  · cases h; exact .notInitialized _
  · exact absurd h (hinside f)

theorem phaseFault_of_planRectangle {i : Instr} {r : Rect} {src : PixelSource} {s : State} {f : Fault}
    (h : planRectangle i r src s = .fault f) : PhaseFault i f :=
  phaseFault_of_planTransfer (by intro f; split <;> simp) h

/-- Where the plan of a request is a fault, it is a check of the phase (R258). -/
theorem phaseFault_of_enginePlan {i : Instr} {s : State} {f : Fault} (h : enginePlan i s = some (.fault f)) :
    PhaseFault i f := by
  cases i with
  | attach cfg => exact phaseFault_of_planAttach (Option.some.inj h)
  | detach | hardReset | initPanel => exact phaseFault_of_detached (by simp) (Option.some.inj h)
  | sendCommand cmd => exact phaseFault_of_planSendCommand (Option.some.inj h)
  | transferRegion | fillRegion => exact phaseFault_of_planRectangle (Option.some.inj h)
  | transferFullFrame | refreshTick => exact phaseFault_of_planTransfer (by simp) (Option.some.inj h)
  | setRefreshRate hz => exact phaseFault_of_planSetRefreshRate (Option.some.inj h)
  | _ => cases h

/-- A fault that `t` holds is a failed check of the phase, and no other. -/
def OnlyPhaseFault (i : Instr) (t : State) : Prop := ∀ f, t.fault = some f → PhaseFault i f

theorem onlyPhaseFault_of_noFault {i : Instr} {t : State} (h : t.fault = none) : OnlyPhaseFault i t := by
  simp [OnlyPhaseFault, h]

theorem PhaseFault.raise {i : Instr} {f : Fault} (h : PhaseFault i f) (s : State) : OnlyPhaseFault i (s.raise f) := by
  simpa [OnlyPhaseFault] using h

/-! ### Requests at the engine port -/

/-- The script of a request, run whole from a state at rest, raises no fault (R197). -/
theorem Body.runWhole_fault {s : State} {i : Instr} {body : List SubOp} (h : Body s i body) (hf : s.fault = none)
    (hrest : s.atRest = true) (reply : Option Reply) : (runWhole (body ++ [.ret reply]) s).fault = none := by
  have hcalm := h.endsCalm hf hrest
  rw [runWhole, runScript_append hcalm.1, runScript_single]
  exact (finish_of_endsCalm hcalm reply).1

/-- From a state at rest a request at the engine port raises no fault or fails a check of the phase. -/
theorem onlyPhaseFault_of_engineRequest {i : Instr} {plan : Plan} {s t : State} (hplan : enginePlan i s = some plan)
    (hf : s.fault = none) (hrest : s.atRest = true) (h : exec i s = .next t) :
    OnlyPhaseFault i t := by
  have hidle := engine_of_atRest hrest
  rw [exec_of_enginePlan hplan] at h
  cases planned_of_enginePlan hplan with
  | refuse => cases h
  | fault =>
    simp only [presentEngine, hidle, reduceCtorEq, if_false] at h
    cases h
    exact (phaseFault_of_enginePlan hplan).raise s
  | script hbody =>
    simp only [presentEngine, hidle, reduceCtorEq, if_false] at h
    cases h
    exact onlyPhaseFault_of_noFault (hbody.runWhole_fault hf hrest _)

/-! ### Requests at the buffer port -/

/-- A panel that is attached has a buffer (R32). -/
theorem buffer_ne_none {s : State} (hf : s.fault = none) (hrest : s.atRest = true) (hphase : ¬ s.phase = .detached) :
    s.buffer ≠ none := by
  obtain ⟨-, -, hbuffer, -⟩ := (attachedRest_iff s).1 (up_of_atRest hf hrest hphase).attached
  exact Option.isSome_iff_ne_none.1 hbuffer

theorem onlyPhaseFault_of_execHostRead {off len : Nat} {s t : State} (hf : s.fault = none) (hrest : s.atRest = true)
    (h : execHostRead off len s = .next t) :
    OnlyPhaseFault (.hostRead off len) t := by
  unfold execHostRead at h
  split at h
  · cases h; exact (PhaseFault.notAttached _).raise s
  · next hphase =>
    split at h
    · cases h; exact onlyPhaseFault_of_noFault hf
    · split at h
      · next hnone => exact absurd hnone (buffer_ne_none hf hrest hphase)
      · cases h; exact onlyPhaseFault_of_noFault hf

theorem onlyPhaseFault_of_execHostWrite {off : Nat} {bytes : List Byte} {s t : State} (hf : s.fault = none)
    (hrest : s.atRest = true) (h : execHostWrite off bytes s = .next t) :
    OnlyPhaseFault (.hostWrite off bytes) t := by
  unfold execHostWrite at h
  split at h
  · cases h; exact (PhaseFault.notAttached _).raise s
  · next hphase =>
    split at h
    · cases h; exact onlyPhaseFault_of_noFault hf
    · split at h
      · cases h; exact onlyPhaseFault_of_noFault hf
      · split at h
        · next hnone => exact absurd hnone (buffer_ne_none hf hrest hphase)
        · cases h; exact onlyPhaseFault_of_noFault hf

/-! ### Every request -/

/-- The requests are those of the engine port and those of the buffer port (R36, R74). -/
theorem IsRequest.cases_port {i : Instr} (h : IsRequest i) :
    i.isEngineRequest = true ∨ (∃ off len, i = .hostRead off len) ∨ ∃ off bytes, i = .hostWrite off bytes := by
  cases i with
  | hostRead off len => exact .inr (.inl ⟨off, len, rfl⟩)
  | hostWrite off bytes => exact .inr (.inr ⟨off, bytes, rfl⟩)
  | attach | detach | hardReset | initPanel | sendCommand | transferRegion | fillRegion | transferFullFrame
  | setRefreshRate | refreshTick => exact .inl rfl
  | _ => simp [IsRequest, Instr.isHostRequest] at h

/-- From a state at rest a request raises no fault or fails a check of the phase (R258). -/
theorem onlyPhaseFault_of_exec {i : Instr} {s t : State} (hi : IsRequest i) (hf : s.fault = none)
    (hrest : s.atRest = true) (h : exec i s = .next t) :
    OnlyPhaseFault i t := by
  obtain hengine | ⟨off, len, rfl⟩ | ⟨off, bytes, rfl⟩ := hi.cases_port
  · obtain ⟨plan, hplan⟩ := enginePlan_of_isEngineRequest hengine s
    exact onlyPhaseFault_of_engineRequest hplan hf hrest h
  · exact onlyPhaseFault_of_execHostRead hf hrest h
  · exact onlyPhaseFault_of_execHostWrite hf hrest h

/-- Settles O51: between requests the state is at rest, and from there only a check of the phase can fail. -/
theorem noRequestReachesAPrecondition : Obligations.NoRequestReachesAPrecondition := by
  intro i s t hinv ⟨hf, hidle⟩ hi hexec site hsite
  obtain ⟨-, hrest⟩ := inv_idle hinv hf hidle
  exact (onlyPhaseFault_of_exec hi hf hrest hexec _ hsite).ne_precondition site rfl

end Sys2Proof.Machine
end

section
/-! PROOF. What the Panel Protocol Engine emits by itself (spec/41_protocol_engine.md R140 to R149, R153): one cycle, a
frame, a data word where the trace has a place for it, a delay. -/

namespace Sys2Proof.Machine

open Sys2Proof

/-! ### One cycle -/

theorem wordEvents_commandWord (b : Byte) :
    wordEvents (commandWord b) = [.level .dc false, .byte b, .level .wr false, .level .wr true] := by
  rw [wordEvents, isData_commandWord, byte_commandWord]

theorem wordEvents_dataBusWord (b : Byte) :
    wordEvents (dataBusWord b) = [.level .dc true, .byte b, .level .wr false, .level .wr true] := by
  rw [wordEvents, isData_dataBusWord, byte_dataBusWord]

/-- One more cycle is one more word of the projection (R127). -/
theorem obs_append_wordEvents (tr : List Event) (w : BusWord) : obs (tr ++ wordEvents w) = obs tr ++ [.word w] := by
  rw [obs_append, obsFrom_wordEvents]

/-- Settles O26: each primitive is one cycle, whose events are those of its word. -/
theorem cyclePrimitivesEmitOneCycle : Obligations.CyclePrimitivesEmitOneCycle := by
  intro b s hf hlines
  refine ⟨?_, ?_, ?_, ?_⟩
  · rw [show exec (.writeCommand b) s = .next (runScript (cycle false b) s) from rfl, runScript_cycle _ _ _ hf hlines]
    rfl
  · rw [← wordEvents_commandWord, obs_append_wordEvents]
  · rw [show exec (.writeData b) s = .next (runScript (cycle true b) s) from rfl, runScript_cycle _ _ _ hf hlines]
    rfl
  · rw [← wordEvents_dataBusWord, obs_append_wordEvents]

/-! ### Frames -/

theorem afterGhost_trace (cmd : Command) (s : State) : (afterGhost cmd s).trace = s.trace := by
  cases cmd <;> rfl

/-- Each word is a cycle of four events (R142). -/
theorem wordsEvents_length (ws : List BusWord) : (wordsEvents ws).length = 4 * ws.length := by
  induction ws with
  | nil => rfl
  | cons w ws ih =>
    rw [show wordsEvents (w :: ws) = wordEvents w ++ wordsEvents ws from rfl, List.length_append, ih, List.length_cons,
      show (wordEvents w).length = 4 from rfl]
    omega

/-- Settles O27: a frame is the cycles of its words, and its ghost effect leaves the trace. -/
theorem framesEmitTheirEncoding : Obligations.FramesEmitTheirEncoding := by
  intro cmd s hf hlines
  have htrace : (afterGhost cmd (s.sends (encodeCommand cmd))).trace = s.trace ++ wordsEvents (encodeCommand cmd) :=
    afterGhost_trace ..
  rw [runScript_emitFrame cmd s hf hlines]
  refine ⟨(afterGhost_fault ..).trans hf, htrace, ?_⟩
  rw [htrace, List.length_append, wordsEvents_length]

/-- A row whose meaning is a frame sends the frame's words and has its ghost effect (R142, R156). -/
theorem exec_of_frame {i : Instr} {cmd : Command} {ws : List BusWord} {s : State}
    (hexec : exec i s = .next (runScript (emitFrame cmd) s)) (hwords : encodeCommand cmd = ws) (hf : s.fault = none)
    (hlines : s.linesUp) : exec i s = .next (afterGhost cmd (s.sends ws)) := by
  rw [hexec, runScript_emitFrame cmd s hf hlines, hwords]

/-- Settles O28: each of the five rows is its frame, and none of the frames has a ghost effect. -/
theorem plainFramesEmitTheirWords : Obligations.PlainFramesEmitTheirWords := by
  intro v s hf hlines
  obtain ⟨hreset, hsleepOut, hdisplayOn, hmemoryWrite, hpixelFormat, -⟩ := encoderGivesTheWireWords v 0 0
  exact ⟨exec_of_frame rfl hreset hf hlines, exec_of_frame rfl hsleepOut hf hlines,
    exec_of_frame rfl hdisplayOn hf hlines, exec_of_frame rfl hmemoryWrite hf hlines,
    exec_of_frame rfl hpixelFormat hf hlines⟩

/-- Settles O29: the ghost effect of an address frame is the ghost field of its command. -/
theorem addressFramesSendBothBounds : Obligations.AddressFramesSendBothBounds := by
  intro a e s hf hlines
  obtain ⟨-, -, -, -, -, hcolumn, hrow⟩ := encoderGivesTheWireWords 0 a e
  exact ⟨exec_of_frame rfl hcolumn hf hlines, exec_of_frame rfl hrow hf hlines⟩

/-! ### Where a data word stands -/

/-- The frame of the nearest preceding command word, with the data words after it (R91, R99). -/
theorem currentFrame_of_command {tr : List Event} {before ds : List BusWord} {opcode : Byte}
    (hwords : busWords tr = before ++ commandWord opcode :: ds) (hds : ∀ d ∈ ds, BusWord.isData d = true) :
    currentFrame tr = some (opcode, ds.length) := by
  have hopens (frame : Option (Byte × Nat)) : frameAfter frame (commandWord opcode) = some (opcode, 0) := by
    simp [frameAfter, isData_commandWord, byte_commandWord]
  rw [currentFrame, hwords, List.foldl_append, List.foldl_cons, hopens, foldl_frameAfter_data _ _ _ hds, Nat.zero_add]

/-- Before any command word there is no frame (R99). -/
theorem currentFrame_of_no_command {tr : List Event} {ds : List BusWord} (hwords : busWords tr = ds)
    (hds : ∀ d ∈ ds, BusWord.isData d = true) : currentFrame tr = none := by
  rw [currentFrame, hwords, foldl_frameAfter_none ds hds]

theorem dataPlace_of_frame {tr : List Event} {opcode : Byte} {n : Nat} (h : currentFrame tr = some (opcode, n)) :
    dataPlace tr
      = if opcode = 0x2C#8 then .payload else if n < argumentCount opcode then .argument else .outside := by
  simp only [dataPlace, h]

theorem dataPlace_of_no_frame {tr : List Event} (h : currentFrame tr = none) : dataPlace tr = .outside := by
  simp only [dataPlace, h]

theorem exec_dataWord_payload {b : Byte} {s : State} (hplace : dataPlace s.trace = .payload) (hf : s.fault = none)
    (hlines : s.linesUp) :
    exec (.dataWord b) s = .next ((s.sends [dataWordOf b.toNat]).setPending (s.streamPending - 1)) := by
  rw [← dataBusWord_eq_dataWordOf, ← runScript_payloadByte (emitD b) b s hf (runScript_emitD b s hf hlines)]
  simp only [exec, execDataWord, hplace]

theorem exec_dataWord_argument {b : Byte} {s : State} (hplace : dataPlace s.trace = .argument) (hf : s.fault = none)
    (hlines : s.linesUp) : exec (.dataWord b) s = .next (s.sends [dataWordOf b.toNat]) := by
  rw [← dataBusWord_eq_dataWordOf, ← runScript_emitD b s hf hlines]
  simp only [exec, execDataWord, hplace]

theorem exec_dataWord_outside {b : Byte} {s : State} (hplace : dataPlace s.trace = .outside) :
    exec (.dataWord b) s = .refused (.dataOutsideFrame b) := by
  simp only [exec, execDataWord, hplace]

/-- Settles O30: the words of the trace give the frame, the frame the place, and the place what the word does. -/
theorem dataWordIsOnePayloadByte : Obligations.DataWordIsOnePayloadByte := by
  intro b opcode before ds s hds
  refine ⟨fun hwords hf hlines => ?_, fun hwords hopcode hfull => ?_, fun hwords => ?_⟩
  · have hplace := dataPlace_of_frame (currentFrame_of_command hwords hds)
    refine ⟨fun hopcode => ?_, fun hopcode hroom => ?_⟩
    · exact exec_dataWord_payload (hplace.trans (if_pos hopcode)) hf hlines
    · exact exec_dataWord_argument (hplace.trans ((if_neg hopcode).trans (if_pos hroom))) hf hlines
  · have hplace := dataPlace_of_frame (currentFrame_of_command hwords hds)
    exact exec_dataWord_outside (hplace.trans ((if_neg hopcode).trans (if_neg hfull.not_gt)))
  · exact exec_dataWord_outside (dataPlace_of_no_frame (currentFrame_of_no_command hwords hds))

/-! ### Delays -/

/-- With a delay nothing rides (R153; log 7). -/
theorem oneEvent_delay (ms : Nat) (ops : List SubOp) : oneEvent (.delay ms :: ops) = [.delay ms] := rfl

theorem afterEvent_delay (ms : Nat) (ops : List SubOp) : afterEvent (.delay ms :: ops) = ops := rfl

/-- Settles O31: the move at a delay runs the delay and leaves the rest. -/
theorem delayIsOneEvent : Obligations.DelayIsOneEvent := by
  refine fun ms s => ⟨rfl, fun ops hscript => ?_⟩
  rw [engineMove, hscript, oneEvent_delay, afterEvent_delay, runScript_single]
  rfl

end Sys2Proof.Machine
end

section
/-! PROOF. The sequencer requests (spec/41_protocol_engine.md R150 to R152): what HARD_RESET, INIT_PANEL
and SEND_COMMAND come to. -/

namespace Sys2Proof.Machine

open Sys2Proof

/-! ### What a plan comes to -/

/-- A plan that refuses is refused, also while the engine is Busy (R103, R261). -/
theorem exec_of_refuse {i : Instr} {r : Refusal} {s : State} (hplan : enginePlan i s = some (.refuse r)) :
    exec i s = .refused r := by
  rw [exec_of_enginePlan hplan, presentEngine]

/-- An Idle engine raises the fault of a plan (R258). -/
theorem exec_of_fault {i : Instr} {f : Fault} {s : State} (hplan : enginePlan i s = some (.fault f))
    (hidle : s.engine = .idle) : exec i s = .next (s.raise f) := by
  rw [exec_of_enginePlan hplan]
  simp [presentEngine, hidle]

/-- A request whose script leads to `t` before its return answers from `t`, with the engine Idle again (R36, R251). -/
theorem exec_answered {i : Instr} {st : Status} {body : List SubOp} {s t : State}
    (hplan : enginePlan i s = some (.script (body ++ [retStatus s i st]))) (hidle : s.engine = .idle)
    (hbody : runScript body (s.setEngine .busy) = t.setEngine .busy) (hf : t.fault = none) (hidle' : t.engine = .idle) :
    exec i s = .next (t.answered i st) := by
  have hcaller : t.caller = s.caller := by
    obtain ⟨-, -, -, -, hcaller, -⟩ := runScript_frame body (s.setEngine .busy)
    rwa [hbody] at hcaller
  have hagain : (t.setEngine .busy).setEngine .idle = t := by rw [← hidle']; rfl
  rw [exec_of_script hplan hidle, runWhole_retStatus i st hbody hf, hagain, State.answered, hcaller]

/-! ### Scripts on configured lines -/

theorem runScript_setLine_cons (l : Line) (v : Bool) (ops : List SubOp) {s : State} (hf : s.fault = none)
    (hlines : s.linesUp) : runScript (.setLine l v :: ops) s = runScript ops (s.driveLine l v) := by
  have hline : runOp (.setLine l v) s = s.driveLine l v :=
    setLineOp_of_output (by rw [hlines, ByLine.get_const]) v
  rw [runScript_cons (by rw [hline]; exact hf), hline]

theorem runScript_delay_cons (ms : Nat) (ops : List SubOp) {s : State} (hf : s.fault = none) :
    runScript (.delay ms :: ops) s = runScript ops (s.emit (.delay ms)) :=
  runScript_cons (op := .delay ms) hf

theorem runScript_emitWord_append (w : BusWord) (ops : List SubOp) {s : State} (hf : s.fault = none)
    (hlines : s.linesUp) : runScript (emitWord w ++ ops) s = runScript ops (s.sends [w]) := by
  have hcycle := runScript_emitWord w s hf hlines
  rw [runScript_append (by rw [hcycle]; exact hf), hcycle]

/-- The end of a reset (R150, R151). -/
theorem runScript_resetEnd {s : State} (hf : s.fault = none) :
    runScript [.setPhase .configured, .setLastCol none, .setLastRow none] s
      = ((s.setPhase .configured).setLastCol none).setLastRow none := by
  simp [runScript, runOp, hf]

/-! ### HARD_RESET -/

theorem runScript_hardResetScript {s : State} (hf : s.fault = none) (hlines : s.linesUp) :
    runScript hardResetScript s = { s with
      level := { s.level with rst := .high }
      trace := s.trace ++ [.level .rst false, .delay 120, .level .rst true, .delay 120]
      phase := .configured
      lastCol := none
      lastRow := none } := by
  calc runScript hardResetScript s
      = runScript [.setPhase .configured, .setLastCol none, .setLastRow none]
          ((((s.driveLine .rst false).emit (.delay 120)).driveLine .rst true).emit (.delay 120)) := by
        rw [hardResetScript, runScript_setLine_cons _ _ _ hf hlines, runScript_delay_cons _ _ (by exact hf),
          runScript_setLine_cons _ _ _ (by exact hf) (by exact hlines), runScript_delay_cons _ _ (by exact hf)]
        rfl
    _ = _ := by
        rw [runScript_resetEnd (by exact hf)]
        simp [State.emit, State.driveLine, State.setPhase, State.setLastCol, State.setLastRow, ByLine.set, Level.ofBool]

/-- Settles O32: the phase decides, and the script is the pulse and the end of a reset. -/
theorem hardResetPulsesTheResetLine : Obligations.HardResetPulsesTheResetLine := by
  intro s ⟨hf, hidle⟩
  refine ⟨fun hphase => ?_, fun hphase hlines => ?_⟩
  · exact exec_of_fault (congrArg some (if_pos hphase)) hidle
  · exact exec_answered (congrArg some (if_neg hphase)) hidle
      (runScript_hardResetScript (s := s.setEngine .busy) hf hlines) hf hidle

/-! ### INIT_PANEL -/

/-- The frames and delays of INIT_PANEL, as a state (R152). -/
def initPanelFramed (s : State) : State :=
  ((((s.sends [0x001#9]).emit (.delay 120)).sends [0x011#9]).emit (.delay 120)).sends [0x03A#9, 0x155#9, 0x029#9]

theorem runScript_initPanelScript {s : State} (hf : s.fault = none) (hlines : s.linesUp) :
    runScript initPanelScript s = { s with
      level := levelsAfterWord s.level 0x029#9
      trace := s.trace ++ (wordsEvents [0x001#9] ++ [.delay 120] ++ wordsEvents [0x011#9] ++ [.delay 120]
        ++ wordsEvents [0x03A#9, 0x155#9, 0x029#9])
      phase := .initialized
      timerArmed := true
      lastCol := none
      lastRow := none } := by
  calc runScript initPanelScript s
      = runScript [.setLastCol none, .setLastRow none, .setPhase .initialized, .setTimer true] (initPanelFramed s) := by
        simp only [initPanelScript, ← emitWord_commandWord, ← emitWord_dataBusWord, List.append_assoc, List.cons_append,
          List.nil_append]
        rw [runScript_emitWord_append _ _ hf hlines, runScript_delay_cons _ _ (by exact hf),
          runScript_emitWord_append _ _ (by exact hf) (by exact hlines), runScript_delay_cons _ _ (by exact hf),
          runScript_emitWord_append _ _ (by exact hf) (by exact hlines),
          runScript_emitWord_append _ _ (by exact hf) (by exact hlines),
          runScript_emitWord_append _ _ (by exact hf) (by exact hlines), sends_append, sends_append]
        rfl
    _ = ((((initPanelFramed s).setLastCol none).setLastRow none).setPhase .initialized).setTimer true := by
        simp [runScript, runOp, initPanelFramed, hf]
    _ = _ := by
        simp only [← List.append_assoc]
        rfl

/-- Settles O33: the phase decides only whether the panel is attached. -/
theorem initPanelRunsTheSequence : Obligations.InitPanelRunsTheSequence := by
  intro s ⟨hf, hidle⟩
  refine ⟨fun hphase => ?_, fun hphase hlines => ?_⟩
  · exact exec_of_fault (congrArg some (if_pos hphase)) hidle
  · exact exec_answered (congrArg some (if_neg hphase)) hidle
      (runScript_initPanelScript (s := s.setEngine .busy) hf hlines) hf hidle

/-! ### SEND_COMMAND -/

/-- What SEND_COMMAND does after a frame, as a state (R150). -/
def afterSent (cmd : Command) (s : State) : State :=
  match cmd with
  | .reset => (((s.emit (.delay 120)).setPhase .configured).setLastCol none).setLastRow none
  | .sleepOut => s.emit (.delay 120)
  | .setPixelFormat _ | .setColumnAddress _ _ | .setRowAddress _ _ | .memoryWrite | .displayOn => s

theorem runScript_afterCommand (cmd : Command) {s : State} (hf : s.fault = none) :
    runScript (afterCommand cmd) s = afterSent cmd s := by
  cases cmd with
  | reset =>
    rw [afterCommand, runScript_delay_cons _ _ hf]
    exact runScript_resetEnd hf
  | sleepOut => exact runScript_single ..
  | _ => rfl

theorem runScript_sendCommand (cmd : Command) {s : State} (hf : s.fault = none) (hlines : s.linesUp) :
    runScript (emitFrame cmd ++ afterCommand cmd) s = afterSent cmd (afterGhost cmd (s.sends (encodeCommand cmd))) := by
  have hframe := runScript_emitFrame cmd s hf hlines
  have hghost : (afterGhost cmd (s.sends (encodeCommand cmd))).fault = none := (afterGhost_fault ..).trans hf
  rw [runScript_append (by rw [hframe]; exact hghost), hframe, runScript_afterCommand cmd hghost]

/-- Every command but a memory write is sent to an attached panel: its words, its ghost effect, what follows, `OK`
(R150). -/
theorem exec_sendCommand {cmd : Command} {ws : List BusWord} (hwords : encodeCommand cmd = ws)
    (hcmd : cmd ≠ .memoryWrite) {s : State} (hready : s.ready) (hlines : s.linesUp) (hphase : s.phase ≠ .detached) :
    exec (.sendCommand cmd) s
      = .next ((afterSent cmd (afterGhost cmd (s.sends ws))).answered (.sendCommand cmd) .ok) := by
  subst hwords
  obtain ⟨hf, hidle⟩ := hready
  have hscript := runScript_sendCommand cmd (s := s.setEngine .busy) hf hlines
  refine exec_answered (congrArg some ((if_neg hcmd).trans (if_neg hphase))) hidle (hscript.trans ?_) ?_ ?_
  · cases cmd <;> rfl
  · cases cmd <;> exact hf
  · cases cmd <;> exact hidle

/-- Settles O34: each of the six commands is sent with its words, and only the first two have a delay to append. -/
theorem sendCommandSendsOneFrame : Obligations.SendCommandSendsOneFrame := by
  intro v a e s hready hlines hphase
  obtain ⟨hreset, hsleepOut, hdisplayOn, -, hpixelFormat, hcolumn, hrow⟩ := encoderGivesTheWireWords v a e
  refine ⟨?_, ?_, ?_, ?_, ?_, ?_⟩
  · rw [exec_sendCommand hreset (by simp) hready hlines hphase, ← List.append_assoc]
    rfl
  · rw [exec_sendCommand hsleepOut (by simp) hready hlines hphase, ← List.append_assoc]
    rfl
  · exact exec_sendCommand hdisplayOn (by simp) hready hlines hphase
  · exact exec_sendCommand hpixelFormat (by simp) hready hlines hphase
  · exact exec_sendCommand hcolumn (by simp) hready hlines hphase
  · exact exec_sendCommand hrow (by simp) hready hlines hphase

/-- Settles O35: the form is checked before the phase and before the engine. -/
theorem sendMemoryWriteIsRefused : Obligations.SendMemoryWriteIsRefused :=
  fun _ => exec_of_refuse (congrArg some (if_pos rfl))

end Sys2Proof.Machine
end

section
/-! PROOF. The addressing-window translator (spec/42_window_translator.md R171 to R176): validation of a rectangle, the
words of a window in either orientation, and the rejection of a request whose rectangle is invalid. -/

namespace Sys2Proof.Machine

open Sys2Proof

/-! ### Validation -/

theorem validIn_eq_decide (r : Rect) (c : Cfg) :
    r.validIn c = decide (r.x + r.width ≤ c.width ∧ r.y + r.height ≤ c.height) := (Bool.decide_and ..).symm

theorem validIn_eq_false_iff (r : Rect) (c : Cfg) :
    r.validIn c = false ↔ c.width < r.x + r.width ∨ c.height < r.y + r.height := by
  rw [validIn_eq_decide, decide_eq_false_iff_not, not_and_or, Nat.not_le, Nat.not_le]

/-- Settles O36: the two comparisons of R171 are one truth value. -/
theorem validateAnswersTheInvariant : Obligations.ValidateAnswersTheInvariant := by
  intro r s
  rw [← validIn_eq_decide]
  rfl

/-! ### Entering SET_WINDOW -/

theorem exec_setWindow_invalid {r : Rect} {s : State} (hinvalid : r.validIn s.cfg = false) :
    exec (.setWindow r) s = .next (s.raise (.precondition (.setWindowInvalid r))) :=
  if_neg (Bool.eq_false_iff.1 hinvalid)

theorem exec_setWindow_valid {r : Rect} {s : State} (hf : s.fault = none) (hlines : s.linesUp)
    (hvalid : r.validIn s.cfg = true) :
    exec (.setWindow r) s = .next ((((s.sends (windowWords s.cfg r)).setLastCol (some (columnBounds s.cfg r))).setLastRow
      (some (rowBounds s.cfg r))).setPending (2 * r.width * r.height)) := by
  rw [← runScript_setWindow s.cfg r s hf hlines]
  exact if_pos hvalid

/-- Settles O39: outside on either axis is invalid. -/
theorem setWindowNeedsAValidRectangle : Obligations.SetWindowNeedsAValidRectangle :=
  fun r s houtside => exec_setWindow_invalid ((validIn_eq_false_iff r s.cfg).2 houtside)

/-! ### The words of a window -/

/-- The bounds of a valid rectangle on a legal surface are 16-bit values, the far ones too (R9, R176). -/
theorem bounds_fit {c : Cfg} {r : Rect} (hcfg : c.ok = true) (hvalid : r.validIn c = true) :
    r.x + r.width < 2 ^ 16 ∧ r.y + r.height < 2 ^ 16 := by
  simp only [Cfg.ok, Bool.and_eq_true, decide_eq_true_eq] at hcfg
  obtain ⟨⟨⟨-, hwidth⟩, -, hheight⟩, -⟩ := hcfg
  rw [validIn_eq_decide, decide_eq_true_eq] at hvalid
  omega

/-- The two address frames of an axis: the opcode, the origin, and origin plus extent (R176). -/
theorem encode_addressFrames {origin extent : Nat} (h : origin + extent < 2 ^ 16) :
    encodeCommand (.setColumnAddress (axisBounds origin extent).1 (axisBounds origin extent).2)
      = 0x02A#9 :: (boundWords origin ++ boundWords (origin + extent))
    ∧ encodeCommand (.setRowAddress (axisBounds origin extent).1 (axisBounds origin extent).2)
      = 0x02B#9 :: (boundWords origin ++ boundWords (origin + extent)) := by
  obtain ⟨-, -, -, -, -, hcolumn, hrow⟩ :=
    encoderGivesTheWireWords 0 (axisBounds origin extent).1 (axisBounds origin extent).2
  have hnear : (axisBounds origin extent).1.toNat = origin := Nat.mod_eq_of_lt (by omega)
  have hfar : (axisBounds origin extent).2.toNat = origin + extent := Nat.mod_eq_of_lt h
  rw [hnear, hfar] at hcolumn hrow
  exact ⟨hcolumn, hrow⟩

section
variable {c : Cfg} {r : Rect} (hcfg : c.ok = true) (hvalid : r.validIn c = true)
include hcfg hvalid

theorem windowWords_landscape (horientation : c.orientation = .landscape) :
    windowWords c r = [0x02A#9] ++ boundWords r.x ++ boundWords (r.x + r.width)
      ++ [0x02B#9] ++ boundWords r.y ++ boundWords (r.y + r.height) ++ [0x02C#9] := by
  obtain ⟨hx, hy⟩ := bounds_fit hcfg hvalid
  obtain ⟨hxFrame, -⟩ := encode_addressFrames hx
  obtain ⟨-, hyFrame⟩ := encode_addressFrames hy
  simp only [windowWords, windowCommands, horientation, List.flatMap_cons, List.flatMap_nil, Rect.xRange, Rect.yRange,
    hxFrame, hyFrame]
  rfl

theorem windowWords_portrait (horientation : c.orientation = .portrait) :
    windowWords c r = [0x02B#9] ++ boundWords r.x ++ boundWords (r.x + r.width)
      ++ [0x02A#9] ++ boundWords r.y ++ boundWords (r.y + r.height) ++ [0x02C#9] := by
  obtain ⟨hx, hy⟩ := bounds_fit hcfg hvalid
  obtain ⟨-, hxFrame⟩ := encode_addressFrames hx
  obtain ⟨hyFrame, -⟩ := encode_addressFrames hy
  simp only [windowWords, windowCommands, horientation, List.flatMap_cons, List.flatMap_nil, Rect.xRange, Rect.yRange,
    hxFrame, hyFrame]
  rfl

end

/-- Settles O37: the column frame comes first and has the x-range. -/
theorem landscapeWindow : Obligations.LandscapeWindow := by
  intro r s hf hlines hcfg horientation hvalid
  rw [exec_setWindow_valid hf hlines hvalid, windowWords_landscape hcfg hvalid horientation, columnBounds, rowBounds,
    horientation]
  rfl

/-- Settles O38: the row frame comes first and has the x-range. -/
theorem portraitWindow : Obligations.PortraitWindow := by
  intro r s hf hlines hcfg horientation hvalid
  rw [exec_setWindow_valid hf hlines hvalid, windowWords_portrait hcfg hvalid horientation, columnBounds, rowBounds,
    horientation]
  rfl

/-! ### Transfers that do not reach their stream -/

theorem exec_transfer_detached {i : Instr} {inside : Plan} {s : State}
    (hplan : enginePlan i s = some (planTransfer i s inside)) (hidle : s.engine = .idle) (hphase : s.phase = .detached) :
    exec i s = .next (s.raise (faultNotAttached i)) :=
  exec_of_fault (hplan.trans (by rw [planTransfer, hphase])) hidle

theorem exec_transfer_configured {i : Instr} {inside : Plan} {s : State}
    (hplan : enginePlan i s = some (planTransfer i s inside)) (hidle : s.engine = .idle)
    (hphase : s.phase = .configured) : exec i s = .next (s.raise (faultNotInitialized i)) :=
  exec_of_fault (hplan.trans (by rw [planTransfer, hphase])) hidle

/-- Once the panel is initialized, a transfer of an invalid rectangle only answers (R172). -/
theorem exec_rectangle_invalid {i : Instr} {r : Rect} {src : PixelSource} {s : State}
    (hplan : enginePlan i s = some (planRectangle i r src s)) (hready : s.ready) (hphase : s.phase = .initialized)
    (hinvalid : r.validIn s.cfg = false) : exec i s = .next (s.answered i .invalidArgument) := by
  obtain ⟨hf, hidle⟩ := hready
  have hscript : planRectangle i r src s = .script ([] ++ [retStatus s i .invalidArgument]) := by
    simp [planRectangle, planTransfer, hphase, hinvalid]
  exact exec_answered (hplan.trans (congrArg some hscript)) hidle rfl hf hidle

/-- Settles O44: the phase is looked at first, and only then the rectangle. -/
theorem invalidRectanglesAreRejected : Obligations.InvalidRectanglesAreRejected := by
  intro r color s hready houtside i hi
  have hinvalid := (validIn_eq_false_iff r s.cfg).2 houtside
  obtain ⟨src, hplan⟩ : ∃ src, enginePlan i s = some (planRectangle i r src s) := by
    obtain rfl | rfl := List.mem_pair.1 hi
    · exact ⟨.buffer, rfl⟩
    · exact ⟨.color color, rfl⟩
  split
  · next hphase => exact exec_transfer_detached hplan hready.2 hphase
  · next hphase => exact exec_transfer_configured hplan hready.2 hphase
  · next hphase => exact exec_rectangle_invalid hplan hready hphase hinvalid

end Sys2Proof.Machine
end

section
/-! PROOF. The full frame (spec/42_window_translator.md R181, spec/43_pixel_streamer.md R194): the pixels of the full
panel are the buffer from its first offset to its last. -/

namespace Sys2Proof.Machine

open Sys2Proof

/-! ### The buffer in offset order -/

theorem Memory.readBytes_add (m : Memory) (off k n : Nat) :
    m.readBytes off (k + n) = m.readBytes off k ++ m.readBytes (off + k) n := by
  simp only [Memory.readBytes, ← List.map_append, List.range'_append_1]

/-- Rows of one length, one after the other from offset 0, are read as one run. -/
theorem Memory.readBytes_rows (m : Memory) (k n : Nat) :
    ((List.range n).flatMap fun j => m.readBytes (k * j) k) = m.readBytes 0 (k * n) := by
  induction n with
  | zero => rfl
  | succ n ih =>
    rw [List.range_succ, List.flatMap_append, ih, List.flatMap_singleton, Nat.mul_succ, Memory.readBytes_add,
      Nat.zero_add]

/-- The payload of the full panel is every byte of the buffer once, in offset order (R194). -/
theorem bufferPayload_fullPanel (c : Cfg) (m : Memory) :
    bufferPayload c m c.fullPanel
      = (List.range (2 * (c.width * c.height))).map fun off => dataWordOf (m.read off).toNat := by
  have hrow (j : Nat) : c.pixOff c.fullPanel.x (c.fullPanel.y + j) = 2 * c.width * j := by
    simp only [Cfg.pixOff, Cfg.fullPanel]
    ring
  simp only [bufferPayload_eq_rows, hrow]
  calc ((List.range c.height).flatMap fun j => m.readBytes (2 * c.width * j) (2 * c.width)).map dataBusWord
      = (m.readBytes 0 (2 * (c.width * c.height))).map dataBusWord := by rw [Memory.readBytes_rows, Nat.mul_assoc]
    _ = _ := by
      simp only [Memory.readBytes, List.map_map, ← List.range_eq_range', Function.comp_def, dataBusWord_eq_dataWordOf]

/-! ### The stream of the full panel -/

/-- The stream of the full panel from the buffer, whoever asked for it (R194, R230). -/
theorem runScript_fullFrame {m : Memory} {s : State} (hf : s.fault = none) (hlines : s.linesUp)
    (hbuffer : s.buffer = some m) :
    runScript (streamScript s.cfg s.cfg.fullPanel .buffer) s = s.transferred s.cfg.fullPanel
      ((List.range (2 * (s.cfg.width * s.cfg.height))).map fun off => dataWordOf (m.read off).toNat) := by
  rw [← bufferPayload_fullPanel]
  exact runScript_stream m s.cfg.fullPanel .buffer s hf hlines
    fun _ hp _ => ⟨hbuffer, pixOff_in_buffer (fullPanel_valid s.cfg) hp⟩

/-- Settles O42: the stream of the full panel, then `OK`. -/
theorem fullFrameStreamsTheBufferInOrder : Obligations.FullFrameStreamsTheBufferInOrder := by
  intro m s ⟨hf, hidle⟩ hlines hphase hbuffer
  have hscript : planTransferFullFrame s
      = .script (streamScript s.cfg s.cfg.fullPanel .buffer ++ [retStatus s .transferFullFrame .ok]) := by
    simp only [planTransferFullFrame, planTransfer, hphase]
  exact exec_answered (congrArg some hscript) hidle
    (runScript_fullFrame (s := s.setEngine .busy) hf hlines hbuffer) hf hidle

end Sys2Proof.Machine
end

section
/-! PROOF. The words of a transfer (spec/43_pixel_streamer.md R193, R195, R196, R200): which words a payload is made of and
how many, from the buffer and in one colour, and how many a whole transfer has. -/

namespace Sys2Proof.Machine

open Sys2Proof

/-! ### The count of words -/

/-- A payload from either source is two words per pixel (R196). -/
theorem payload_length (c : Cfg) (m : Memory) (src : PixelSource) (r : Rect) :
    (r.pixels.flatMap (pixelWords c m src)).length = 2 * (r.width * r.height) := by
  have htwo : ∀ p ∈ r.pixels, (pixelWords c m src p).length = 2 := fun _ _ => rfl
  rw [List.length_flatMap, List.map_congr_left htwo, List.map_const', List.sum_replicate, Rect_pixels_length,
    smul_eq_mul, Nat.mul_comm]

/-- A payload from either source is data words only (R196). -/
theorem payload_isData (c : Cfg) (m : Memory) (src : PixelSource) (r : Rect) :
    ∀ w ∈ r.pixels.flatMap (pixelWords c m src), BusWord.isData w = true := by
  intro w hw
  obtain ⟨p, -, hwp⟩ := List.mem_flatMap.1 hw
  obtain rfl | rfl := List.mem_pair.1 hwp
  · exact isData_dataBusWord _
  · exact isData_dataBusWord _

/-- A window is two address frames of five words each and memory write, in either orientation (R180). -/
theorem windowWords_length (c : Cfg) (r : Rect) : (windowWords c r).length = 11 := by
  unfold windowWords windowCommands
  cases c.orientation with
  | landscape => rfl
  | portrait => rfl

/-- Around its payload a transfer has the window before and display-on after (R195, R200). -/
theorem transferWords_length (c : Cfg) (r : Rect) (payload : List BusWord) :
    (transferWords c r payload).length = payload.length + 12 := by
  have hdisplayOn : (encodeCommand .displayOn).length = 1 := rfl
  rw [transferWords, List.length_append, List.length_append, windowWords_length, hdisplayOn]
  omega

/-- Settles O46: the payload is the buffer's, and the window and display-on have 12 words. -/
theorem payloadIsTwoDataWordsPerPixel : Obligations.PayloadIsTwoDataWordsPerPixel := by
  intro c m r
  have hlength : (bufferPayload c m r).length = 2 * (r.width * r.height) := payload_length c m .buffer r
  refine ⟨?_, payload_isData c m .buffer r, ?_⟩
  · rw [hlength, Nat.mul_assoc]
  · rw [transferWords_length, hlength]

/-! ### The two transfers of a rectangle -/

/-- Settles O40: the stream of a valid rectangle from the buffer, then `OK`. -/
theorem transferRegionStreamsTheBuffer : Obligations.TransferRegionStreamsTheBuffer :=
  fun _ _ _ hready hlines hphase hbuffer hvalid => exec_transferRegion hready hlines hphase hbuffer hvalid

/-- The payload of a fill is the two bytes of the colour as numbers, low byte first, once per pixel (R64, R193). -/
theorem fillPayload_eq_replicate (r : Rect) (color : U16) :
    fillPayload r color = (List.replicate (r.width * r.height)
      [dataWordOf (color.toNat % 256), dataWordOf (color.toNat / 256)]).flatten := by
  rw [fillPayload, List.flatMap_def, List.map_const', Rect_pixels_length, dataBusWord_eq_dataWordOf,
    dataBusWord_eq_dataWordOf, lo8_toNat, hi8_toNat]

/-- Settles O41: the stream of a valid rectangle in one colour, then `OK`. -/
theorem fillRegionStreamsTheColor : Obligations.FillRegionStreamsTheColor := by
  intro r color s hready hlines hphase hvalid
  rw [← fillPayload_eq_replicate]
  exact exec_fillRegion hready hlines hphase hvalid

end Sys2Proof.Machine
end

section
/-! PROOF. The host surface at the engine port (spec/44_host_surface.md R221, R222, R229, R230): what REFRESH_TICK, ATTACH,
DETACH and SET_REFRESH_RATE come to. -/

namespace Sys2Proof.Machine

open Sys2Proof

/-! ### REFRESH_TICK -/

/-- The return to no one at the end of a script run whole: the engine is Idle again, and nothing is answered (R230). -/
theorem runWhole_retNone {body : List SubOp} {s t : State} (hbody : runScript body (s.setEngine .busy) = t)
    (hf : t.fault = none) : runWhole (body ++ [.ret none]) s = t.setEngine .idle := by
  rw [runWhole, runScript_append (by rw [hbody]; exact hf), hbody, runScript_single]
  rfl

/-- Settles O43: the script is the stream of the full panel, and its return answers no one. -/
theorem refreshTickIsAFullFrame : Obligations.RefreshTickIsAFullFrame := by
  intro m s ⟨hf, hidle⟩ hlines hphase hbuffer
  have hplan : enginePlan .refreshTick s
      = some (.script (streamScript s.cfg s.cfg.fullPanel .buffer ++ [.ret none])) := by
    simp only [enginePlan, planRefreshTick, planTransfer, hphase]
  have hstream := runScript_fullFrame (s := s.setEngine .busy) hf hlines hbuffer
  rw [exec_of_script hplan hidle]
  exact congrArg _ ((runWhole_retNone hstream hf).trans (transferred_setEngine hidle ..))

/-! ### ATTACH -/

/-- The form is checked first, in any phase (R261). -/
theorem planAttach_badCfg {cfg : Cfg} (hcfg : cfg.ok = false) (s : State) : planAttach cfg s = .refuse .badCfg := by
  simp [planAttach, hcfg]

theorem planAttach_attached {cfg : Cfg} {s : State} (hcfg : cfg.ok = true) (hphase : s.phase ≠ .detached) :
    planAttach cfg s = .fault (.alreadyAttached (.attach cfg) .phaseIsNotDetached) := by
  simp [planAttach, hcfg, hphase]

theorem planAttach_drawFails {cfg : Cfg} {s : State} (hcfg : cfg.ok = true) (hphase : s.phase = .detached)
    (hdraw : cfg.allocOk = false ∨ cfg.gpioMapOk = false) :
    planAttach cfg s = .script ([] ++ [retStatus s (.attach cfg) .initFailed]) := by
  obtain halloc | hgpio := hdraw
  · simp [planAttach, hcfg, hphase, halloc]
  · simp [planAttach, hcfg, hphase, hgpio]

theorem planAttach_succeeds {cfg : Cfg} {s : State} (hcfg : cfg.ok = true) (hphase : s.phase = .detached)
    (halloc : cfg.allocOk = true) (hgpio : cfg.gpioMapOk = true) :
    planAttach cfg s = .script ([.allocate cfg] ++ configureScript ++ [.setPhase .configured]
      ++ [retStatus s (.attach cfg) .ok]) := by
  simp [planAttach, hcfg, hphase, halloc, hgpio]

/-- ATTACH's script up to its return: the instance allocated, every line configured, phase Configured (R120, R221). -/
theorem runScript_attachScript (cfg : Cfg) {s : State} (hf : s.fault = none) :
    runScript ([.allocate cfg] ++ configureScript ++ [.setPhase .configured]) s
      = (Line.all.foldl State.configured (s.allocate cfg)).setPhase .configured := by
  have hlines : runScript configureScript (s.allocate cfg) = Line.all.foldl State.configured (s.allocate cfg) :=
    runScript_configureLines Line.all hf
  have hallocate : runOp (.allocate cfg) s = s.allocate cfg := rfl
  rw [List.append_assoc, List.singleton_append, runScript_assign rfl hf, hallocate,
    runScript_append (by rw [hlines]; exact hf), hlines, runScript_single]
  rfl

/-- Settles O48: all 13 lines are configured, so what they were before does not show; the new buffer lists no byte, so each
of its bytes reads zero. -/
theorem attachCreatesTheInstance : Obligations.AttachCreatesTheInstance := by
  intro cfg s ⟨hf, hidle⟩ hphase hcfg halloc hgpio
  refine ⟨_, exec_answered (congrArg some (planAttach_succeeds hcfg hphase halloc hgpio)) hidle ?_ ?_ ?_, rfl,
    fun off => ?_⟩
  · rw [runScript_attachScript cfg (s := s.setEngine .busy) hf, foldl_configured]
    rfl
  · exact hf
  · exact hidle
  · rw [Nat.mul_comm 2]
    rfl

/-- Settles O49: each outcome is one plan of ATTACH, and the refusal alone does not wait for an Idle engine. -/
theorem attachFailsInOrder : Obligations.AttachFailsInOrder := by
  refine fun cfg s => ⟨fun hcfg => ?_, fun hcfg ⟨_, hidle⟩ hphase => ?_, fun hcfg ⟨hf, hidle⟩ hphase hdraw => ?_⟩
  · exact exec_of_refuse (congrArg some (planAttach_badCfg hcfg s))
  · exact exec_of_fault (congrArg some (planAttach_attached hcfg hphase)) hidle
  · exact exec_answered (congrArg some (planAttach_drawFails hcfg hphase hdraw)) hidle rfl hf hidle

/-! ### DETACH -/

/-- Settles O50: the phase decides, and the script is one assignment and the return. -/
theorem detachReleasesTheInstance : Obligations.DetachReleasesTheInstance := by
  refine fun s ⟨hf, hidle⟩ => ⟨fun hphase => ?_, fun hphase => ?_⟩
  · exact exec_of_fault (congrArg some (if_pos hphase)) hidle
  · exact exec_answered (body := [.release]) (congrArg some (if_neg hphase)) hidle (runScript_single ..) hf hidle

/-! ### SET_REFRESH_RATE -/

theorem rateLegal_eq_false_iff (hz : Nat) (c : Cfg) : rateLegal hz c = false ↔ hz = 0 ∨ c.maxRefreshHz < hz := by
  rw [rateLegal, decide_eq_false_iff_not]
  omega

theorem exec_setRefreshRate_illegal {hz : Nat} {s : State} (hready : s.ready) (hphase : s.phase ≠ .detached)
    (hillegal : rateLegal hz s.cfg = false) :
    exec (.setRefreshRate hz) s = .next (s.answered (.setRefreshRate hz) .invalidArgument) := by
  obtain ⟨hf, hidle⟩ := hready
  have hscript : planSetRefreshRate hz s = .script ([] ++ [retStatus s (.setRefreshRate hz) .invalidArgument]) := by
    simp [planSetRefreshRate, hphase, hillegal]
  exact exec_answered (congrArg some hscript) hidle rfl hf hidle

theorem exec_setRefreshRate_legal {hz : Nat} {s : State} (hready : s.ready) (hphase : s.phase ≠ .detached)
    (hlegal : rateLegal hz s.cfg = true) :
    exec (.setRefreshRate hz) s = .next ((s.setRate hz).answered (.setRefreshRate hz) .ok) := by
  obtain ⟨hf, hidle⟩ := hready
  have hscript : planSetRefreshRate hz s = .script ([.setRate hz] ++ [retStatus s (.setRefreshRate hz) .ok]) := by
    simp [planSetRefreshRate, hphase, hlegal]
  exact exec_answered (congrArg some hscript) hidle (runScript_single ..) hf hidle

/-- Settles O54: the rates rejected are those that are not legal (R30). -/
theorem refreshRateIsBounded : Obligations.RefreshRateIsBounded := by
  intro hz s hready hphase
  split
  · next hout => exact exec_setRefreshRate_illegal hready hphase ((rateLegal_eq_false_iff hz s.cfg).2 hout)
  · next hin =>
    have hlegal : rateLegal hz s.cfg = true :=
      Bool.ne_false_iff.1 fun hfalse => hin ((rateLegal_eq_false_iff hz s.cfg).1 hfalse)
    exact exec_setRefreshRate_legal hready hphase hlegal

end Sys2Proof.Machine
end

section
/-! PROOF. Host byte access (spec/44_host_surface.md R223 to R225): the clamped length and its status, the bytes a HOST_READ
returns, and what the buffer reads after a HOST_WRITE. -/

namespace Sys2Proof.Machine

open Sys2Proof

/-! ### Clamping -/

/-- An access that starts inside the buffer is clamped exactly if it ends outside (R225). -/
theorem clampStatus_eq {off size : Nat} (len : Nat) (hoff : off < size) :
    clampStatus off len size = if size < off + len then .sizeMismatch else .ok := by
  have hclamped : clampLength off len size < len ↔ size < off + len := by unfold clampLength; omega
  simp only [clampStatus, hclamped]

theorem take_clampLength_length (off size : Nat) (bytes : List Byte) :
    (bytes.take (clampLength off bytes.length size)).length = min bytes.length (size - off) := by
  rw [List.length_take, clampLength]
  omega

/-! ### HOST_READ -/

theorem exec_hostRead_outOfRange {off : Nat} (len : Nat) {s : State} (hphase : s.phase ≠ .detached)
    (hoff : s.cfg.bufSize ≤ off) : exec (.hostRead off len) s = .next (s.reply
      { agent := s.caller, op := .request (.hostRead off len), result := .read .outOfRange [] }) := by
  simp [exec, execHostRead, hphase, hoff]

/-- Inside the buffer neither the engine nor the lock matters (R74). -/
theorem exec_hostRead_inRange {off : Nat} (len : Nat) {m : Memory} {s : State} (hphase : s.phase ≠ .detached)
    (hoff : off < s.cfg.bufSize) (hbuffer : s.buffer = some m) :
    exec (.hostRead off len) s = .next (s.reply
      { agent := s.caller, op := .request (.hostRead off len)
        result := .read (clampStatus off len s.cfg.bufSize) (m.readBytes off (clampLength off len s.cfg.bufSize)) }) := by
  simp [exec, execHostRead, hphase, Nat.not_le.2 hoff, hbuffer]

theorem Memory.readBytes_eq_map_range (m : Memory) (off n : Nat) :
    m.readBytes off n = (List.range n).map fun k => m.read (off + k) := by
  rw [Memory.readBytes, List.range'_eq_map_range, List.map_map]
  rfl

/-- Settles O55: the offset is in range or not, and in range the status and the bytes are those of the clamped length. -/
theorem hostReadIsClamped : Obligations.HostReadIsClamped := by
  intro off len m s hphase hbuffer
  by_cases hoff : s.cfg.bufSize ≤ off
  · rw [exec_hostRead_outOfRange len hphase hoff, if_pos hoff]
  · have hin := Nat.lt_of_not_le hoff
    rw [exec_hostRead_inRange len hphase hin hbuffer, if_neg hoff, clampStatus_eq len hin,
      Memory.readBytes_eq_map_range, clampLength]

/-! ### HOST_WRITE -/

/-- Reading anywhere after a run of bytes is written. -/
theorem Memory.writeBytes_read {bs : List Byte} {m : Memory} (hm : m.wf = true) (off a : Nat) :
    (m.writeBytes off bs).read a
      = if off ≤ a ∧ a < off + bs.length then bs.getD (a - off) 0#8 else m.read a := by
  split
  · next hin =>
    obtain ⟨hfirst, hlast⟩ := hin
    obtain ⟨k, rfl⟩ := Nat.exists_eq_add_of_le hfirst
    have hk : k < bs.length := by omega
    have hread := congrArg (·.getD k 0#8) (Memory.readBytes_writeBytes hm off (bs := bs))
    simpa [Memory.readBytes_eq_map_range, hk] using hread
  · exact Memory.writeBytes_read_outside hm (by omega)

/-- Settles O56: the range is checked before the lock, and in range the bytes stored are those of the clamped length. -/
theorem hostWriteStoresTheClampedBytes : Obligations.HostWriteStoresTheClampedBytes := by
  intro off bytes m s hphase
  refine ⟨exec_hostWrite_outOfRange bytes hphase, fun hoff hbuffer hm hlock => ?_⟩
  refine ⟨m.writeBytes off (bytes.take (clampLength off bytes.length s.cfg.bufSize)), ?_, fun a => ?_⟩
  · rw [exec_hostWrite_free bytes hphase hoff hlock hbuffer, clampStatus_eq bytes.length hoff]
    rfl
  · rw [Memory.writeBytes_read hm, take_clampLength_length]
    refine ite_congr rfl (fun ⟨_, hlast⟩ => ?_) fun _ => rfl
    have hkept : a - off < clampLength off bytes.length s.cfg.bufSize := by unfold clampLength; omega
    rw [List.getD_eq_getElem?_getD, List.getElem?_take_of_lt hkept, ← List.getD_eq_getElem?_getD]

end Sys2Proof.Machine
end

section
/-! PROOF. What the timer and a drawing host present (spec/44_host_surface.md R226 to R232): the tick of an armed timer, the
request a drawing operation maps onto, and the expansion of a blit. -/

namespace Sys2Proof.Machine

open Sys2Proof

/-! ### The timer -/

/-- Settles O13: the timer's turn looks at nothing but whether it is armed. -/
theorem timerTicksOnlyWhileArmed : Obligations.TimerTicksOnlyWhileArmed := by
  intro s view rest hf hschedule
  have hturn : step s = presentNext .timer view (s.setSchedule rest) := step_of_turn hf hschedule
  refine ⟨fun harmed => ?_, fun hunarmed => ?_⟩
  · have hissue : step s = issue view .refreshTick { s with schedule := rest, caller := .timer } :=
      hturn.trans (if_pos harmed)
    refine ⟨hissue, ?_⟩
    rintro rfl
    exact hissue
  · exact hturn.trans (if_neg (by simp [hunarmed]))

/-! ### Drawing operations -/

/-- Each of the five forms is presented as the request it maps onto (R226, R227, R232). -/
theorem presentOp_of_drawing {op : HostOp} {i : Instr} {r source : Rect} {c : U16} {x y : Nat}
    (hop : (op, i) ∈ [(HostOp.fillRect r c, Instr.fillRegion r c), (.copyRect source x y, .transferFullFrame),
      (.dirty (.rectangle r), .transferRegion r), (.dirty (.colorFill r c), .fillRegion r c),
      (.dirty .generic, .transferFullFrame)])
    (view : View) (k : Nat) (rest : List HostOp) (s : State) : presentOp view k op rest s = issue view i s := by
  simp only [List.mem_cons, Prod.mk.injEq, List.not_mem_nil, or_false] at hop
  obtain ⟨rfl, rfl⟩ | ⟨rfl, rfl⟩ | ⟨rfl, rfl⟩ | ⟨rfl, rfl⟩ | ⟨rfl, rfl⟩ := hop <;> rfl

/-- Settles O15: a host's turn presents the operation, and in the whole view issuing its request is `exec`. -/
theorem drawingOperationsMapOntoRequests : Obligations.DrawingOperationsMapOntoRequests := by
  intro s k view rest ops op i r source c x y hf hschedule hwaiting hhost hop
  have hissue : step s = issue view i { s with schedule := rest, hosts := s.hosts.set k ops, caller := .host k } :=
    (step_of_host_turn hf hschedule hwaiting hhost).trans (presentOp_of_drawing hop ..)
  refine ⟨hissue, ?_⟩
  rintro rfl
  exact hissue

/-! ### Blits -/

section
variable {k : Nat} {r : Rect} {src : List Byte} {rest : List HostOp} {s : State}

theorem presentBlit_wrongLength (hsrc : src.length ≠ 2 * r.width * r.height) :
    presentBlit k r src rest s = .refused .blitLength := by
  simp [presentBlit, HostOp.wellFormed, hsrc]

variable (hsrc : src.length = 2 * r.width * r.height)
include hsrc

theorem presentBlit_detached (hphase : s.phase = .detached) :
    presentBlit k r src rest s = .next (s.raise (faultNotAttached (.transferRegion r))) := by
  simp [presentBlit, HostOp.wellFormed, hsrc, hphase]

theorem presentBlit_invalid (hphase : s.phase ≠ .detached) (hinvalid : r.validIn s.cfg = false) :
    presentBlit k r src rest s = .next (s.reply
      { agent := s.caller, op := .blit r src, result := .status .invalidArgument }) := by
  simp [presentBlit, HostOp.wellFormed, hsrc, hphase, hinvalid]

theorem presentBlit_valid (hphase : s.phase ≠ .detached) (hvalid : r.validIn s.cfg = true) :
    presentBlit k r src rest s = .next (s.setHost k (blitRequests s.cfg r src ++ rest)) := by
  simp [presentBlit, HostOp.wellFormed, hsrc, hphase, hvalid]

end

/-- Settles O59: a host's turn presents the blit, and the first of its checks that fails decides: the length, the instance
(log 13), the rectangle. -/
theorem blitExpandsToRowWritesAndATransfer : Obligations.BlitExpandsToRowWritesAndATransfer := by
  intro view k r src ops rest s hf hschedule hwaiting hhost
  have hstep : step s = presentBlit k r src ops
      { s with schedule := rest, hosts := s.hosts.set k ops, caller := .host k } :=
    step_of_host_turn hf hschedule hwaiting hhost
  rw [hstep]
  refine ⟨presentBlit_wrongLength, fun hsrc hphase => presentBlit_detached hsrc hphase,
    fun hsrc hphase hinvalid => presentBlit_invalid hsrc hphase hinvalid, fun hsrc hphase hvalid => ?_⟩
  rw [presentBlit_valid hsrc (by exact hphase) (by exact hvalid)]
  simp only [State.setHost, List.set_set]
  rfl

end Sys2Proof.Machine
end

section
/-! PROOF. The faults of the phase checks (spec/60_exceptions.md R258, R261): what needs an initialized panel, and what
needs an instance. -/

namespace Sys2Proof.Machine

open Sys2Proof

/-! ### In phase Configured -/

/-- Settles O45: the four requests share their phase checks, and these come before anything else, the rectangle too. -/
theorem transfersNeedAnInitializedPanel : Obligations.TransfersNeedAnInitializedPanel := by
  intro i s ⟨_, hidle⟩ hphase hi
  obtain ⟨r, rfl⟩ | ⟨r, c, rfl⟩ | rfl | rfl := hi <;> exact exec_transfer_configured rfl hidle hphase

/-! ### In phase Detached -/

theorem exec_hostRead_detached (off len : Nat) {s : State} (hphase : s.phase = .detached) :
    exec (.hostRead off len) s = .next (s.raise (faultNotAttached (.hostRead off len))) := by
  simp [exec, execHostRead, hphase]

/-- ATTACH alone needs no instance (R221), and a memory write is refused by its form before the phase is looked at
(R150, R261). -/
theorem exec_engineRequest_detached {i : Instr} {s : State} (hengine : i.isEngineRequest = true)
    (hwf : i.wellFormed = true) (hattach : ∀ cfg, i ≠ .attach cfg) (hidle : s.engine = .idle)
    (hphase : s.phase = .detached) : exec i s = .next (s.raise (faultNotAttached i)) := by
  cases i with
  | attach cfg => exact absurd rfl (hattach cfg)
  | sendCommand cmd =>
    have hcmd : cmd ≠ .memoryWrite := by simpa [Instr.wellFormed] using hwf
    exact exec_of_fault (congrArg some ((if_neg hcmd).trans (if_pos hphase))) hidle
  | detach | hardReset | initPanel | setRefreshRate => exact exec_of_fault (congrArg some (if_pos hphase)) hidle
  | transferRegion | fillRegion | transferFullFrame | refreshTick => exact exec_transfer_detached rfl hidle hphase
  | _ => cases hengine

/-- Settles O53: at either port the instance is the first check of a request that is well-formed. -/
theorem requestsNeedAnInstance : Obligations.RequestsNeedAnInstance := by
  intro i s ⟨_, hidle⟩ hphase hwf hi hattach
  obtain hengine | ⟨off, len, rfl⟩ | ⟨off, bytes, rfl⟩ := IsRequest.cases_port hi
  · exact exec_engineRequest_detached hengine hwf hattach hidle hphase
  · exact exec_hostRead_detached off len hphase
  · exact exec_hostWrite_detached off bytes hphase

end Sys2Proof.Machine
end
